-- ==== Sys2Proof/Word.lean ====
section
/-! DEFINITION. The words of PDAC2 and the plain data its rules speak of (spec/00_scope.md R11, spec/10_state.md,
spec/30_encoding.md): bytes, directions, formats, the setup packet, the USB event, descriptor items. -/

namespace Sys2Proof

/-- A byte (R11). -/
abbrev Byte := BitVec 8

/-- A byte string, lowest address and earliest on the wire first (R11). -/
abbrev Bytes := List Byte

/-- Direction of an endpoint or of a data stage (R136: `OUT` is 0, host to device; `IN` is 1). -/
inductive Dir where
  | OUT
  | IN
deriving DecidableEq, Repr, Inhabited

/-- Endpoint types (R40). -/
inductive EpType where
  | control
  | isochronous
  | bulk
  | interrupt
deriving DecidableEq, Repr, Inhabited

/-- The data PID, the "toggle bit" of an endpoint (R40: 0 = DATA0, 1 = DATA1). -/
inductive Pid where
  | data0
  | data1
deriving DecidableEq, Repr, Inhabited

/-- SampleFormat (R34). -/
inductive SampleFormat where
  | s16
  | s24
  | s32
deriving DecidableEq, Repr, Inhabited

/-- Channel numbers of ChannelControl: master = 0, left = 1, right = 2 (R7 `CHANNELS`). -/
inductive Chan where
  | master
  | left
  | right
deriving DecidableEq, Repr, Inhabited

/-- The five fields of a setup packet (R22, R121). -/
structure SetupPacket where
  requestType : Byte
  request     : Byte
  value       : BitVec 16
  index       : BitVec 16
  length      : BitVec 16
deriving DecidableEq, Repr, Inhabited

/-- UsbEvent, the tagged union of R135. -/
inductive UsbEvent where
  | setupPacket (p : SetupPacket)
  | bufferDone (endpoint : Fin 16) (direction : Dir) (length : Nat)
  | busReset
deriving DecidableEq, Repr, Inhabited

/-- Fatal codes (R455). -/
inductive FatalCode where
  | queueOverflow
  | oversizeOut
  | bufferAlloc
deriving DecidableEq, Repr, Inhabited

/-- An endpoint descriptor of the logical descriptor list (R10, `Ep`). -/
structure EpItem where
  number        : Fin 16
  direction     : Dir
  type          : EpType
  maxPacketSize : Nat
deriving DecidableEq, Repr, Inhabited

/-- One item of `CONFIG_ITEMS` (R10). -/
inductive ConfigItem where
  | iface (number alt : Byte)
  | ep (e : EpItem)
deriving DecidableEq, Repr, Inhabited

/-- ChannelControl (R32): `volume` is an i16, dB scaled by 256. -/
structure ChannelControl where
  muted  : Bool
  volume : BitVec 16
deriving DecidableEq, Repr, Inhabited

/-- The three ChannelControl records `chan[c]` (R32). -/
structure Channels where
  master : ChannelControl
  left   : ChannelControl
  right  : ChannelControl
deriving DecidableEq, Repr, Inhabited

/-- Where in its control transfer a class OUT request is: its setup word with `length` bytes announced
(R245 to R247), or the arrived payload handed to the handler (R248, R260). -/
inductive OutStage where
  | setup (length : BitVec 16)
  | payload (b : Bytes)
deriving DecidableEq, Repr, Inhabited

end Sys2Proof
end

