-- ==== Sys2Proof/Machine/Bits.lean ====
section
/-! DEFINITION. Byte order and number readings (spec/00_scope.md R12, R13; spec/20_memory.md R88: everything is
little-endian). -/

namespace Sys2Proof.Bits

/-- The little-endian unsigned number a byte string spells (R12: `LE16`, `LE32` and `LE64` by length). -/
def leNat : Bytes → Nat
  | [] => 0
  | b :: r => b.toNat + 256 * leNat r

/-- The low `k` bytes of `v`, little-endian (R12: `toLE16`, `toLE32` are `toLE 2`, `toLE 4`). -/
def toLE : Nat → Nat → Bytes
  | 0, _ => []
  | k + 1, v => BitVec.ofNat 8 v :: toLE k (v / 256)

/-- `LE16` of the first two bytes (R12). -/
def le16 (b : Bytes) : BitVec 16 := BitVec.ofNat 16 (leNat (b.take 2))

/-- `LE32` of the first four bytes (R12). -/
def le32 (b : Bytes) : BitVec 32 := BitVec.ofNat 32 (leNat (b.take 4))

/-- `toLE16` (R12). -/
def toLE16 (v : BitVec 16) : Bytes := toLE 2 v.toNat

/-- `toLE32` (R12). -/
def toLE32 (v : BitVec 32) : Bytes := toLE 4 v.toNat

/-- `x >>a n`, the arithmetic right shift `floor(x / 2^n)` (R13). -/
def asr (x : Int) (n : Nat) : Int := x / 2 ^ n

/-- `roundup64` (R13). -/
def roundup64 (x : Nat) : Nat := (x + 63) / 64 * 64

end Sys2Proof.Bits
end

