-- ==== Sys2Proof/Machine/Codes.lean ====
section
/-! DEFINITION. The numeric codes of the requests (spec/30_encoding.md R122, R124 to R127) and the constants the
spec fixes (spec/00_scope.md R7). The code numbers are from general knowledge in the spec's own words (R9), held in
one place so that a wrong one is mended in one place; log entry 16. -/

namespace Sys2Proof.Code

/-- Values of `requestType[6:5]` (R122). -/
def typeStandard : BitVec 2 := 0
def typeClass : BitVec 2 := 1
def typeVendor : BitVec 2 := 2

/-- Values of `requestType[4:0]` (R122). -/
def rcptDevice : BitVec 5 := 0
def rcptInterface : BitVec 5 := 1
def rcptEndpoint : BitVec 5 := 2

/-- Standard request codes the engine implements (R124). -/
def getStatus : Byte := 0
def setAddress : Byte := 5
def getDescriptor : Byte := 6
def setConfiguration : Byte := 9
def setInterface : Byte := 11

/-- Descriptor types, `value[15:8]` of GET_DESCRIPTOR (R125). -/
def descDevice : Byte := 1
def descConfiguration : Byte := 2
def descString : Byte := 3
def descQualifier : Byte := 6

/-- Class request codes (R126). -/
def cur : Byte := 1
def range : Byte := 2

/-- Control selectors (R127). -/
def fuMute : Byte := 1
def fuVolume : Byte := 2
def csSamFreq : Byte := 1

end Sys2Proof.Code

namespace Sys2Proof.Const

/-- Chunk size of a control IN data stage (R7 `EP0_MAX_PACKET`). -/
def ep0MaxPacket : Nat := 64

/-- Largest class OUT payload, one packet (R7 `CTRL_OUT_MAX`). -/
def ctrlOutMax : Nat := 64

/-- Alignment of endpoint buffers (R7 `BUF_ALIGN`). -/
def bufAlign : Nat := 64

/-- Largest max packet size of control, bulk and interrupt endpoints (R7, R41). -/
def maxPktNonIsoLimit : Nat := 64

/-- Isochronous max packet sizes are below this (R7, R41). -/
def maxPktIsoLimit : Nat := 1024

/-- Entries of the gain table (R7 `GAIN_ENTRIES`). -/
def gainEntries : Nat := 97

/-- `GAIN_TABLE[96]` (R7 `GAIN_UNITY`). -/
def gainUnity : BitVec 32 := 0x80000000

/-- Right shift after each gain multiplication (R7 `GAIN_SHIFT`). -/
def gainShift : Nat := 31

/-- Volume unit, 1/256 dB (R7 `DB_SCALE`). -/
def dbScale : Int := 256

/-- The discrete sampling frequencies in Hz, in the order of R132 (R7 `SUPPORTED_RATES`). -/
def supportedRates : List Nat := [44100, 48000, 88200, 96000]

/-- Length of the device descriptor (R7 `DEVICE_DESC_LEN`). -/
def deviceDescLen : Nat := 18

/-- Reply to GET_STATUS (R7 `STATUS_REPLY`). -/
def statusReply : Bytes := [0x00, 0x00]

end Sys2Proof.Const
end

