-- ==== Sys2Proof/Config.lean ====
section
/-! DEFINITION. The configuration record of PDAC2 (spec/00_scope.md R8, R10): what an implementation fixes before
reset and no operation writes (R20, R107), and the free values the spec leaves open, as constants with no body. -/

namespace Sys2Proof

/-- Handlers of an interface slot other than `AC_IF` and `AS_IF` (`EXT_HANDLERS`, R243): which of its three slots
hold a procedure. The procedures themselves are opaque: `Config.extIn`, `Config.extOut`, `Config.extSetIf`. -/
structure ExtSlot where
  slot     : Byte
  hasIn    : Bool
  hasOut   : Bool
  hasSetIf : Bool
deriving DecidableEq, Repr, Inhabited

/-- One thing a request that clears endpoints can do to an endpoint: it "resets toggle state and re-arms transfers"
(spec/40_control_dispatch.md R184). -/
inductive ClearAction where
  /-- `ep[n,d].nextToggleBit <- p`. -/
  | setToggle (n : Fin 16) (d : Dir) (p : Pid)
  /-- `ep[n,d].armed <- none`. -/
  | disarm (n : Fin 16) (d : Dir)
  /-- `startTransfer(n, OUT, -, length)`, its result ignored. -/
  | armOut (n : Fin 16) (length : Nat)
  /-- `startTransfer(n, IN, buffer, |buffer|)`, its result ignored. -/
  | armIn (n : Fin 16) (buffer : Bytes)
  /-- `FbStep()`. -/
  | feedback
deriving DecidableEq, Repr

/-- The effect of EP_CLEAR, a configuration function with R184 as its reference (93 U8, 92 D48): the reference, or
the `k`-th function of the state of the device, `Config.clearPlan k`. Log entry 19. -/
inductive ClearEffect where
  | reference
  | custom (k : Nat)
deriving DecidableEq, Repr, Inhabited

/-- The parameters of R8, one field each, and the effect of EP_CLEAR (93 U8). The functions `RING_SIZE` and `ALT_FORMAT` are finite tables: `ringSizes`
lists (format, rate in Hz, size), `ringSize16`, `ringSize24`, `ringSize32` serve a rate that is not listed;
`altFormats` lists (alternate setting, format), an alternate setting that is not listed has none. -/
structure Config where
  qCap              : Nat
  maxEventsPerIter  : Nat
  nIfSlots          : Nat
  sharedCapacity    : Nat
  deviceDescriptor  : Bytes
  configDescriptor  : Bytes
  configItems       : List ConfigItem
  configValue       : Byte
  stringPlaceholder : Bytes
  gainTable         : List (BitVec 32)
  ringSizes         : List (SampleFormat × Nat × Nat)
  ringSize16        : Nat
  ringSize24        : Nat
  ringSize32        : Nat
  altFormats        : List (Nat × SampleFormat)
  acIf              : Byte
  asIf              : Byte
  fuId              : Byte
  clkId             : Byte
  epStreamOut       : Fin 16
  epFbIn            : Fin 16
  reqClear          : Byte
  clearEpIndex      : BitVec 16
  clearEffect       : ClearEffect
  periodFrames      : Nat
  initRate          : BitVec 32
  initChan          : Channels
  initRingSize      : Nat
  extHandlers       : List ExtSlot
  muteRangeReply    : Option Bytes
deriving DecidableEq, Repr

/-- The `i`-th free byte: what the spec leaves unspecified of a hardware buffer that a short ring read did not fill
(R344, 93 U9). Free value, log entry 6. -/
opaque Config.freeByte : Nat → Byte

/-- What the external IN handler of slot `i` answers to `p` at its `k`-th free draw: `none` for `Unhandled`,
`some b` for `Reply(b)` (R243: opaque, any result). Free value, log entry 15. -/
opaque Config.extIn (k : Nat) (i : Byte) (p : SetupPacket) : Option Bytes

/-- What the external OUT handler of slot `i` answers (`true` for `ok`; R243). Free value, log entry 15. -/
opaque Config.extOut (k : Nat) (i : Byte) (p : SetupPacket) (payload : Bytes) : Bool

/-- What the external set-interface callback of slot `i` answers to alternate setting `a` (R243). Free value, log
entry 15. -/
opaque Config.extSetIf (k : Nat) (i : Byte) (a : BitVec 16) : Bool

end Sys2Proof
end

