-- ==== Sys2Proof/Syntax.lean ====
section
/-! DEFINITION. The operations of PDAC2 (spec/opcode_table.json, one constructor per row, in the table's order) and
the stimuli that drive it (spec/30_encoding.md R148). A setup-selected row carries the bits of the setup word that
the row leaves open, as the fields of R129 and R130 name them. -/

namespace Sys2Proof

/-- One constructor per row of spec/opcode_table.json. -/
inductive Instr where
  -- Setup-selected rows (R133).
  | getStatus (value index length : BitVec 16)
  | getDescriptorDevice (descIndex : Byte) (index length : BitVec 16)
  | getDescriptorConfiguration (descIndex : Byte) (index length : BitVec 16)
  | getDescriptorString (descIndex : Byte) (index length : BitVec 16)
  | getDescriptorQualifier (descIndex : Byte) (index length : BitVec 16)
  | getDescriptorOther (descType descIndex : Byte) (index length : BitVec 16)
  | setAddress (value index length : BitVec 16)
  | setConfiguration (value index length : BitVec 16)
  | setInterface (value index length : BitVec 16)
  | epClear (vendor : Bool) (value length : BitVec 16)
  | classIn (request : Byte) (value index length : BitVec 16)
  | classInVendor (request : Byte) (value index length : BitVec 16)
  | classOut0 (request : Byte) (value index : BitVec 16)
  | classOut0Vendor (request : Byte) (value index : BitVec 16)
  | classOut (request : Byte) (value index length : BitVec 16)
  | classOutVendor (request : Byte) (value index length : BitVec 16)
  | classOutOversize (vendor : Bool) (request : Byte) (value index length : BitVec 16)
  | unhandled (p : SetupPacket)
  | getCurVolume (ch : Chan) (length : BitVec 16)
  | getRangeVolume (ch : Chan) (length : BitVec 16)
  | getCurMute (ch : Chan) (length : BitVec 16)
  | getRangeMute (ch : Chan) (length : BitVec 16)
  | getCurFreq (chByte : Byte) (length : BitVec 16)
  | getRangeFreq (chByte : Byte) (length : BitVec 16)
  | setCurVolume (ch : Chan) (stage : OutStage)
  | setCurMute (ch : Chan) (stage : OutStage)
  | setCurFreq (chByte : Byte) (stage : OutStage)
  | acUnhandledIn (request : Byte) (value : BitVec 16) (entity : Byte) (length : BitVec 16)
  | acUnhandledOut (request : Byte) (value : BitVec 16) (entity : Byte) (stage : OutStage)
  -- EVENT rows.
  | evSetup (p : SetupPacket)
  | evBufferDone (endpoint : Fin 16) (direction : Dir) (length : Nat)
  | evBusReset
  | ep0InDoneData (length : Nat)
  | ep0InDoneStatus (length : Nat)
  | ep0OutDoneData (length : Nat)
  | ep0Done (direction : Dir) (length : Nat)
  | streamOutDone (length : Nat)
  | feedbackInDone (length : Nat)
  | bufferReady
  | push (e : UsbEvent)
  | iterate
  | tick
  | resetPin
  -- PROC rows.
  | dispatch (p : SetupPacket)
  | ctrlInStart (buf : Bytes) (len : Nat)
  | sendNextChunk
  | ack
  | raiseStall
  | raiseFatal (c : FatalCode)
  | routeClass (p : SetupPacket)
  | invokeOutHandler (q : SetupPacket) (payload : Bytes)
  | pop
  | handle (e : UsbEvent)
  | readAndClearBufferReady
  | activateConfiguration (n : Byte)
  | computeLayout
  | enableEndpoint (e : EpItem)
  | disableEndpoint (n : Fin 16) (d : Dir)
  | setAlternateSetting (i a : BitVec 16)
  | startTransfer (n : Fin 16) (d : Dir) (buffer : Bytes) (length : Nat)
  | ringWrite (data : Bytes) (n : Nat)
  | ringRead (n : Nat)
  | ringFillRatio
  | ringResize (newSize : Nat)
  | streamStart (f : SampleFormat)
  | streamStop
  | tickStopped
  | tickBuffering
  | tickPlaying
  | tickStalled
  | onSamplesReceived (samples : Bytes)
  | setIfCallbackAsIf (a : BitVec 16)
  | unpack (f : SampleFormat) (payload : Bytes)
  | unpack16 (payload : Bytes)
  | unpack24 (payload : Bytes)
  | unpack32 (payload : Bytes)
  | lookup (volume : BitVec 16)
  | gains
  | scale (sample : Int) (gC gM : BitVec 32)
  | mix (f : SampleFormat) (b : Bytes)
  | mixFrame16 (x : Bytes) (gL gR gM : BitVec 32)
  | mixFrame24 (x : Bytes) (gL gR gM : BitVec 32)
  | mixFrame32 (x : Bytes) (gL gR gM : BitVec 32)
  | fbStep
deriving DecidableEq, Repr

/-- What happens next to the machine, one line of R148's notation each: `mainLoop` is one micro-step of the main loop
(one event or the tick, R424), `op` one operation at the level of its rule (`READY`, `ITER`, `TICK`, the push of a
`SETUP`, `DONE` or `RESET` line, a procedure call of program P3), `outData` the hardware storing the bytes of an OUT
transfer before its notice (R66, the `: bytes` of a `DONE` line), `driverPeriod` the environment changing the period the audio
driver will have once configured again (10 R63; no line of R148, log entry 24). -/
inductive Stimulus where
  | mainLoop
  | op (i : Instr)
  | outData (n : Fin 16) (bytes : Bytes)
  | driverPeriod (frames : Nat)
deriving DecidableEq, Repr

end Sys2Proof
end

