-- ==== Sys2Proof/WellFormed.lean ====
section
/-! DEFINITION. Well-formedness: of the configuration record (spec/00_scope.md R10, spec/10_state.md R41,
spec/70_reset_and_hazards.md R506, spec/46_mixer.md R376) and of an operation's operands (the first-match order of
spec/30_encoding.md R133 and the operand domains the rules state). -/

namespace Sys2Proof

/-- R41: at most 64 for control, bulk and interrupt endpoints, below 1024 for isochronous ones. -/
def EpItem.sizeOk (e : EpItem) : Bool :=
  match e.type with
  | .isochronous => decide (e.maxPacketSize < Const.maxPktIsoLimit)
  | _ => decide (e.maxPacketSize ≤ Const.maxPktNonIsoLimit)

/-- R10: endpoint numbers of items are 1 to 15, and R41. -/
def EpItem.ok (e : EpItem) : Bool := decide (1 ≤ e.number.val) && e.sizeOk

/-- The `Ep` items with the (interface, alternate setting) they belong to: the nearest preceding `If` item (R10,
R281). `cur` is that item while the list is walked. An `Ep` item before any `If` item belongs to none. -/
def itemsFrom (cur : Byte × Byte) : List ConfigItem → List ((Byte × Byte) × EpItem)
  | [] => []
  | .iface n a :: r => itemsFrom (n, a) r
  | .ep e :: r => (cur, e) :: itemsFrom cur r

/-- The (number, alternate setting) pairs of the `If` items, in list order. -/
def ifacesOf : List ConfigItem → List (Byte × Byte)
  | [] => []
  | .iface n a :: r => (n, a) :: ifacesOf r
  | .ep _ :: r => ifacesOf r

/-- R10: every `Ep` follows some `If`. -/
def startsWithIface : List ConfigItem → Bool
  | [] => true
  | .iface _ _ :: _ => true
  | .ep _ :: _ => false

/-- Well-formedness of the logical descriptor list (R10, in the order of its clauses). -/
def itemsOk (nIfSlots : Nat) (items : List ConfigItem) : Bool :=
  let ifs := ifacesOf items
  let eps := itemsFrom (0, 0) items
  startsWithIface items
    && decide ifs.Nodup
    && ifs.all (fun p => ifs.contains (p.1, 0))
    && ifs.all (fun p => decide (p.1.toNat < nIfSlots))
    && eps.all (fun p => p.2.ok)
    && decide (eps.Pairwise fun p q =>
        (p.2.number, p.2.direction) = (q.2.number, q.2.direction) → p.1 ≠ q.1 ∧ p.1.1 = q.1.1)

/-- R376: 97 entries, unity at index 96, strictly increasing. -/
def gainTableOk (t : List (BitVec 32)) : Bool :=
  decide (t.length = Const.gainEntries) && decide (t[96]? = some Const.gainUnity)
    && decide (t.Pairwise fun x y => x.toNat < y.toNat)

/-- R506, with the type constraints of R8. -/
def Config.wf (c : Config) : Bool :=
  decide (1 ≤ c.qCap) && decide (1 ≤ c.maxEventsPerIter) && decide (1 ≤ c.nIfSlots)
    && decide (c.sharedCapacity % Const.bufAlign = 0)
    && decide (c.deviceDescriptor.length = Const.deviceDescLen)
    && itemsOk c.nIfSlots c.configItems
    && decide (c.configValue ≠ 0)
    && gainTableOk c.gainTable
    && c.ringSizes.all (fun r => decide (1 ≤ r.2.2))
    && decide (1 ≤ c.ringSize16) && decide (1 ≤ c.ringSize24) && decide (1 ≤ c.ringSize32)
    && c.altFormats.all (fun p => decide (p.1 ≠ 0))
    && decide (c.acIf ≠ c.asIf) && decide (c.acIf.toNat < c.nIfSlots) && decide (c.asIf.toNat < c.nIfSlots)
    && decide (c.fuId ≠ c.clkId)
    && decide (1 ≤ c.epStreamOut.val) && decide (1 ≤ c.epFbIn.val)
    && decide (1 ≤ c.periodFrames)
    && Const.supportedRates.contains c.initRate.toNat
    && decide (1 ≤ c.initRingSize)
    && c.extHandlers.all (fun x => decide (x.slot ≠ c.acIf) && decide (x.slot ≠ c.asIf)
        && decide (x.slot.toNat < c.nIfSlots))

/-- A configuration together with its well-formedness: an ill-formed one is refused by not being one (R10, R506,
93 U19). -/
structure WfConfig where
  val : Config
  ok  : val.wf = true
deriving DecidableEq, Repr

/-- The boot check of R505 (3): an ill-formed configuration record is refused. -/
def WfConfig.ofConfig (c : Config) : Option WfConfig :=
  if h : c.wf = true then some ⟨c, h⟩ else none

/-- `outHandler[i]` is not empty (R28): the Audio Control slot or an external one, below `N_IF_SLOTS`. -/
def Config.hasOutHandler (c : Config) (i : Byte) : Bool :=
  decide (i.toNat < c.nIfSlots)
    && (decide (i = c.acIf) || c.extHandlers.any (fun x => decide (x.slot = i) && x.hasOut))

/-- Selector tests of R250 and R260: the packet addresses a control the Audio Control handler knows; `ranged` says
whether `RANGE` is among its requests (IN) or not (OUT). -/
def Config.acKnows (c : Config) (ranged : Bool) (request : Byte) (value : BitVec 16) (entity : Byte) : Bool :=
  let cs := value.extractLsb' 8 8
  let ch := value.extractLsb' 0 8
  (decide (request = Code.cur) || (ranged && decide (request = Code.range)))
    && ((decide (entity = c.fuId) && (decide (cs = Code.fuVolume) || decide (cs = Code.fuMute))
          && decide (ch.toNat ≤ 2))
      || (decide (entity = c.clkId) && decide (cs = Code.csSamFreq)))

/-- Lines 1 to 13 of R133: the packet is selected by some line before `UNHANDLED`. -/
def Config.routed (c : Config) (p : SetupPacket) : Bool :=
  let dirIn := p.requestType.getLsbD 7
  let type := p.requestType.extractLsb' 5 2
  let rcpt := p.requestType.extractLsb' 0 5
  (dirIn && decide (type = Code.typeStandard) && decide (rcpt = Code.rcptDevice)
      && (decide (p.request = Code.getStatus) || decide (p.request = Code.getDescriptor)))
    || (!dirIn && decide (type = Code.typeStandard) && decide (rcpt = Code.rcptDevice)
      && (decide (p.request = Code.setAddress) || decide (p.request = Code.setConfiguration)))
    || (!dirIn && decide (type = Code.typeStandard) && decide (rcpt = Code.rcptInterface)
      && decide (p.request = Code.setInterface))
    || (!dirIn && (decide (type = Code.typeStandard) || decide (type = Code.typeVendor))
      && decide (rcpt = Code.rcptEndpoint) && decide (p.request = c.reqClear) && decide (p.index = c.clearEpIndex))
    || ((decide (type = Code.typeClass) || decide (type = Code.typeVendor)) && decide (rcpt = Code.rcptInterface))

/-- The operands of a stage: at most one packet is announced (a longer one is CLASS_OUT.OVERSIZE) or delivered. -/
def OutStage.ok : OutStage → Bool
  | .setup length => decide (length.toNat ≤ Const.ctrlOutMax)
  | .payload b => decide (b.length ≤ Const.ctrlOutMax)

/-- The slot a class or vendor request names, `index[7:0]` (R130). -/
def slotOf (index : BitVec 16) : Byte := index.extractLsb' 0 8

/-- The operands of `i` are among those its row and its rule admit. A setup-selected row admits the words that R133's
first-match order leaves to it; a procedure admits the operands its rule names. -/
def Instr.wf (c : Config) : Instr → Bool
  | .getDescriptorOther t _ _ _ =>
      decide (t ≠ Code.descDevice) && decide (t ≠ Code.descConfiguration) && decide (t ≠ Code.descString)
        && decide (t ≠ Code.descQualifier)
  | .classIn _ _ index _ => decide (slotOf index ≠ c.acIf)
  | .classOut0 _ _ index => decide (slotOf index ≠ c.acIf)
  | .classOut _ _ index length =>
      decide (length ≠ 0) && decide (slotOf index ≠ c.acIf)
        && (decide (length.toNat ≤ Const.ctrlOutMax) || !c.hasOutHandler (slotOf index))
  | .classOutVendor _ _ index length =>
      decide (length ≠ 0) && (decide (length.toNat ≤ Const.ctrlOutMax) || !c.hasOutHandler (slotOf index))
  | .classOutOversize _ _ _ index length =>
      decide (Const.ctrlOutMax < length.toNat) && c.hasOutHandler (slotOf index)
  | .unhandled p => !c.routed p
  | .setCurVolume _ stage => stage.ok
  | .setCurMute _ stage => stage.ok
  | .setCurFreq _ stage => stage.ok
  | .acUnhandledIn request value entity _ => !c.acKnows true request value entity
  | .acUnhandledOut request value entity stage => !c.acKnows false request value entity && stage.ok
  | .ctrlInStart buf len => decide (len ≤ buf.length)
  | .invokeOutHandler q _ => c.hasOutHandler (slotOf q.index)
  | .enableEndpoint e => e.ok
  | .startTransfer _ d buffer length => decide (d = .OUT) || decide (length ≤ buffer.length)
  | .ringWrite data n => decide (n ≤ data.length)
  | .ringResize newSize => decide (1 ≤ newSize)
  | .lookup volume => decide (-24831 ≤ volume.toInt) && decide (volume.toInt ≤ 255)
  | .scale _ gC gM => decide (gC.toNat ≤ Const.gainUnity.toNat) && decide (gM.toNat ≤ Const.gainUnity.toNat)
  | .mixFrame16 x _ _ _ => decide (x.length = 4)
  | .mixFrame24 x _ _ _ => decide (x.length = 8)
  | .mixFrame32 x _ _ _ => decide (x.length = 8)
  | .getStatus _ _ _ | .getDescriptorDevice _ _ _ | .getDescriptorConfiguration _ _ _
  | .getDescriptorString _ _ _ | .getDescriptorQualifier _ _ _ | .setAddress _ _ _ | .setConfiguration _ _ _
  | .setInterface _ _ _ | .epClear _ _ _ | .classInVendor _ _ _ _ | .classOut0Vendor _ _ _ | .getCurVolume _ _
  | .getRangeVolume _ _ | .getCurMute _ _ | .getRangeMute _ _ | .getCurFreq _ _ | .getRangeFreq _ _
  | .evSetup _ | .evBufferDone _ _ _ | .evBusReset | .ep0InDoneData _ | .ep0InDoneStatus _ | .ep0OutDoneData _
  | .ep0Done _ _ | .streamOutDone _ | .feedbackInDone _ | .bufferReady | .push _ | .iterate | .tick | .resetPin
  | .dispatch _ | .sendNextChunk | .ack | .raiseStall | .raiseFatal _ | .routeClass _ | .pop | .handle _
  | .readAndClearBufferReady | .activateConfiguration _ | .computeLayout | .disableEndpoint _ _
  | .setAlternateSetting _ _ | .ringRead _ | .ringFillRatio | .streamStart _ | .streamStop | .tickStopped
  | .tickBuffering | .tickPlaying | .tickStalled | .onSamplesReceived _ | .setIfCallbackAsIf _ | .unpack _ _
  | .unpack16 _ | .unpack24 _ | .unpack32 _ | .gains | .mix _ _ | .fbStep => true

end Sys2Proof
end

