-- ==== Sys2Proof/Machine/Params.lean ====
section
/-! DEFINITION. The configuration the machine has after reset: the test configuration `TCFG` of
spec/95_test_vectors.md Part 1, with the defaults of spec/00_scope.md R8 (spec/46_mixer.md R377 for the gain
table). The spec leaves these parameters open; statements quantify over every well-formed record (log entries 1
and 2). -/

namespace Sys2Proof

/-- The default gain table (R377), index 0 first. -/
def gainTableDefault : List (BitVec 32) :=
  [34035, 38188, 42848, 48076, 53942, 60524, 67909, 76196, 85493, 95925,
   107629, 120762, 135497, 152030, 170581, 191395, 214748, 240952, 270352, 303340,
   340353, 381883, 428479, 480762, 539424, 605243, 679094, 761956, 854929, 959246,
   1076291, 1207619, 1354971, 1520302, 1705807, 1913947, 2147484, 2409516, 2703522, 3033401,
   3403532, 3818826, 4284793, 4807617, 5394235, 6052431, 6790940, 7619560, 8549286, 9592457]
  ++
  [10762914, 12076188, 13549706, 15203020, 17058069, 19139468, 21474836, 24095163, 27035217, 30334013,
   34035322, 38188260, 42847932, 48076170, 53942350, 60524313, 67909396, 76195595, 85492864, 95924571,
   107629139, 120761880, 135497058, 152030200, 170580690, 191394682, 214748365, 240951628, 270352174, 303340128,
   340353221, 381882595, 428479319, 480761704, 539423504, 605243126, 679093957, 761955951, 854928639, 959245710,
   1076291389, 1207618800, 1354970580, 1520301996, 1705806895, 1913946816, 2147483648]

/-- `DEVICE_DESCRIPTOR` of TCFG. -/
def tcfgDevice : Bytes :=
  [0x12, 0x01, 0x00, 0x02, 0x00, 0x00, 0x00, 0x40, 0xFE, 0xCA, 0x02, 0xDA, 0x00, 0x01, 0x00, 0x00, 0x00, 0x01]

/-- `CONFIG_ITEMS` of TCFG. -/
def tcfgItems : List ConfigItem :=
  [.iface 0 0, .iface 1 0,
   .iface 1 1, .ep ⟨1, .OUT, .isochronous, 196⟩, .ep ⟨1, .IN, .isochronous, 4⟩,
   .iface 1 2, .ep ⟨1, .OUT, .isochronous, 392⟩, .ep ⟨1, .IN, .isochronous, 4⟩,
   .iface 1 3, .ep ⟨1, .OUT, .isochronous, 392⟩, .ep ⟨1, .IN, .isochronous, 4⟩]

/-- The fields of TCFG (95 Part 1). -/
def tcfgRecord : Config where
  qCap := 8
  maxEventsPerIter := 4
  nIfSlots := 2
  sharedCapacity := 512
  deviceDescriptor := tcfgDevice
  configDescriptor := (List.range 130).map (BitVec.ofNat 8)
  configItems := tcfgItems
  configValue := 1
  stringPlaceholder := [0x04, 0x03, 0x09, 0x04]
  gainTable := gainTableDefault
  ringSizes := []
  ringSize16 := 200
  ringSize24 := 400
  ringSize32 := 400
  altFormats := [(1, .s16), (2, .s24), (3, .s32)]
  acIf := 0
  asIf := 1
  fuId := 2
  clkId := 1
  epStreamOut := 1
  epFbIn := 1
  reqClear := 1
  clearEpIndex := 1
  clearEffect := .reference
  periodFrames := 8
  initRate := 48000
  initChan := ⟨⟨false, 0⟩, ⟨false, 0⟩, ⟨false, 0⟩⟩
  initRingSize := 200
  extHandlers := []
  muteRangeReply := none

/-- TCFG is well-formed in the sense of R506. -/
theorem tcfgRecord_wf : tcfgRecord.wf = true := by decide +kernel

/-- The configuration after reset. -/
def Config.tcfg : WfConfig := ⟨tcfgRecord, tcfgRecord_wf⟩

end Sys2Proof
end

