-- ==== Sys2Proof/Decode.lean ====
section
/-! DEFINITION. Decoding the 8-byte setup packet (spec/30_encoding.md R121, R122, R130, R133) and, after it, the
encoder. Decoding is total: every 8-byte string is a setup packet and is selected by some line of R133 (R121); a
string of another length is refused by name. Which row a word selects depends on the configuration (R150). -/

namespace Sys2Proof

/-- A byte string that is no setup packet (R138: the packet has one length, 8 bytes). -/
inductive DecodeError where
  | notEightBytes (length : Nat)
deriving DecidableEq, Repr

/-- The five fields of eight bytes, 16-bit fields little-endian (R121). -/
def SetupPacket.ofBytes (b : Bytes) : SetupPacket where
  requestType := BitVec.ofNat 8 (Bits.leNat (b.take 1))
  request := BitVec.ofNat 8 (Bits.leNat ((b.drop 1).take 1))
  value := Bits.le16 (b.drop 2)
  index := Bits.le16 (b.drop 4)
  length := Bits.le16 (b.drop 6)

/-- The eight bytes of a setup packet (R121). -/
def SetupPacket.bytes (p : SetupPacket) : Bytes :=
  [p.requestType, p.request] ++ Bits.toLE16 p.value ++ Bits.toLE16 p.index ++ Bits.toLE16 p.length

/-- `dir`, bit 7 of `requestType`: true for IN (R122). -/
def SetupPacket.dirIn (p : SetupPacket) : Bool := p.requestType.getLsbD 7

/-- `type`, bits 6:5 (R122). -/
def SetupPacket.type (p : SetupPacket) : BitVec 2 := p.requestType.extractLsb' 5 2

/-- `rcpt`, bits 4:0 (R122). -/
def SetupPacket.rcpt (p : SetupPacket) : BitVec 5 := p.requestType.extractLsb' 0 5

/-- `value[15:8]`: descriptor type, or control selector (R125, R130). -/
def SetupPacket.valueHi (p : SetupPacket) : Byte := p.value.extractLsb' 8 8

/-- `value[7:0]`: descriptor index, or channel number (R125, R130). -/
def SetupPacket.valueLo (p : SetupPacket) : Byte := p.value.extractLsb' 0 8

/-- `index[15:8]`: the entity id (R130). -/
def SetupPacket.entity (p : SetupPacket) : Byte := p.index.extractLsb' 8 8

/-- `index[7:0]`: the interface number a class or vendor request is routed by (R130). -/
def SetupPacket.slot (p : SetupPacket) : Byte := slotOf p.index

/-- The channel a number names (R251: 0 master, 1 left, 2 right, others none). -/
def Chan.ofByte (b : Byte) : Option Chan :=
  if b = 0 then some .master else if b = 1 then some .left else if b = 2 then some .right else none

/-- The number of a channel (R7 `CHANNELS`). -/
def Chan.byte : Chan → Byte
  | .master => 0
  | .left => 1
  | .right => 2

/-- The Audio Control rows of an IN class request to `AC_IF` (second table of R133, R250). -/
def decodeAcIn (c : Config) (p : SetupPacket) : Instr :=
  let other := Instr.acUnhandledIn p.request p.value p.entity p.length
  if p.entity = c.fuId then
    match Chan.ofByte p.valueLo with
    | none => other
    | some ch =>
      if p.valueHi = Code.fuVolume then
        if p.request = Code.cur then .getCurVolume ch p.length
        else if p.request = Code.range then .getRangeVolume ch p.length
        else other
      else if p.valueHi = Code.fuMute then
        if p.request = Code.cur then .getCurMute ch p.length
        else if p.request = Code.range then .getRangeMute ch p.length
        else other
      else other
  else if p.entity = c.clkId ∧ p.valueHi = Code.csSamFreq then
    if p.request = Code.cur then .getCurFreq p.valueLo p.length
    else if p.request = Code.range then .getRangeFreq p.valueLo p.length
    else other
  else other

/-- The Audio Control rows of an OUT class request to `AC_IF`, at the stage given (second table of R133, R260). -/
def decodeAcOut (c : Config) (p : SetupPacket) (stage : OutStage) : Instr :=
  let other := Instr.acUnhandledOut p.request p.value p.entity stage
  if p.request = Code.cur then
    if p.entity = c.fuId then
      match Chan.ofByte p.valueLo with
      | none => other
      | some ch =>
        if p.valueHi = Code.fuVolume then .setCurVolume ch stage
        else if p.valueHi = Code.fuMute then .setCurMute ch stage
        else other
    else if p.entity = c.clkId ∧ p.valueHi = Code.csSamFreq then .setCurFreq p.valueLo stage
    else other
  else other

/-- Lines 11 to 13 of R133: a class or vendor request to an interface. Where the slot holds an OUT handler, a
length above 64 is CLASS_OUT.OVERSIZE (R246, R247: the routing test comes first). -/
def decodeInterface (c : Config) (p : SetupPacket) : Instr :=
  let vendor := decide (p.type = Code.typeVendor)
  if p.dirIn then
    if vendor then .classInVendor p.request p.value p.index p.length
    else if p.slot = c.acIf then decodeAcIn c p
    else .classIn p.request p.value p.index p.length
  else if Const.ctrlOutMax < p.length.toNat ∧ c.hasOutHandler p.slot = true then
    .classOutOversize vendor p.request p.value p.index p.length
  else if vendor then
    if p.length = 0 then .classOut0Vendor p.request p.value p.index
    else .classOutVendor p.request p.value p.index p.length
  else if p.slot = c.acIf then decodeAcOut c p (.setup p.length)
  else if p.length = 0 then .classOut0 p.request p.value p.index
  else .classOut p.request p.value p.index p.length

/-- Lines 1 to 6 of R133: Standard, Device, IN. -/
def decodeDeviceIn (p : SetupPacket) : Instr :=
  if p.request = Code.getStatus then .getStatus p.value p.index p.length
  else if p.request = Code.getDescriptor then
    if p.valueHi = Code.descDevice then .getDescriptorDevice p.valueLo p.index p.length
    else if p.valueHi = Code.descConfiguration then .getDescriptorConfiguration p.valueLo p.index p.length
    else if p.valueHi = Code.descString then .getDescriptorString p.valueLo p.index p.length
    else if p.valueHi = Code.descQualifier then .getDescriptorQualifier p.valueLo p.index p.length
    else .getDescriptorOther p.valueHi p.valueLo p.index p.length
  else .unhandled p

/-- The row a setup packet selects: R133's decision list, the first line that matches. -/
def decodeSetup (c : Config) (p : SetupPacket) : Instr :=
  if p.type = Code.typeStandard ∧ p.rcpt = Code.rcptDevice ∧ p.dirIn = true then decodeDeviceIn p
  else if p.type = Code.typeStandard ∧ p.rcpt = Code.rcptDevice then
    if p.request = Code.setAddress then .setAddress p.value p.index p.length
    else if p.request = Code.setConfiguration then .setConfiguration p.value p.index p.length
    else .unhandled p
  else if p.type = Code.typeStandard ∧ p.rcpt = Code.rcptInterface ∧ p.dirIn = false then
    if p.request = Code.setInterface then .setInterface p.value p.index p.length else .unhandled p
  else if (p.type = Code.typeStandard ∨ p.type = Code.typeVendor) ∧ p.rcpt = Code.rcptEndpoint ∧ p.dirIn = false
      ∧ p.request = c.reqClear ∧ p.index = c.clearEpIndex then
    .epClear (decide (p.type = Code.typeVendor)) p.value p.length
  else if (p.type = Code.typeClass ∨ p.type = Code.typeVendor) ∧ p.rcpt = Code.rcptInterface then
    decodeInterface c p
  else .unhandled p

/-- The decoder, total on any bytes. -/
def decode (c : Config) (b : Bytes) : Except DecodeError Instr :=
  if b.length = 8 then .ok (decodeSetup c (SetupPacket.ofBytes b)) else .error (.notEightBytes b.length)

/-- A queued event as an operation (R425): a setup packet selects its row, the two others their EVENT rows. -/
def decodeEvent (c : Config) : UsbEvent → Except DecodeError Instr
  | .setupPacket p => decode c p.bytes
  | .bufferDone n d len => .ok (.evBufferDone n d len)
  | .busReset => .ok .evBusReset

/-! ## Encoder -/

/-- `requestType` from its three fields (R122). -/
def mkRequestType (dirIn : Bool) (type : BitVec 2) (rcpt : BitVec 5) : Byte :=
  (BitVec.ofBool dirIn ++ type ++ rcpt : BitVec 8)

/-- A 16-bit field from its high and low byte (R125, R130). -/
def mkField (hi lo : Byte) : BitVec 16 := hi ++ lo

/-- A packet to the Audio Control interface (R130). -/
def acPacket (c : Config) (dirIn : Bool) (request : Byte) (value : BitVec 16) (entity : Byte)
    (length : BitVec 16) : SetupPacket :=
  ⟨mkRequestType dirIn Code.typeClass Code.rcptInterface, request, value, mkField entity c.acIf, length⟩

/-- `typeVendor` or, when `vendor` is false, the type `other`. -/
def vendorOr (vendor : Bool) (other : BitVec 2) : BitVec 2 := if vendor then Code.typeVendor else other

/-- The packet of a GET_DESCRIPTOR request (R125). -/
def getDescriptorPacket (t descIndex : Byte) (index length : BitVec 16) : SetupPacket :=
  ⟨mkRequestType true Code.typeStandard Code.rcptDevice, Code.getDescriptor, mkField t descIndex, index, length⟩

/-- The packet of a class or vendor request to an interface (R122, R130). -/
def interfacePacket (dirIn : Bool) (type : BitVec 2) (request : Byte) (value index length : BitVec 16) :
    SetupPacket :=
  ⟨mkRequestType dirIn type Code.rcptInterface, request, value, index, length⟩

/-- The setup packet of a setup-selected operation, from R122 to R130. An EVENT or PROC row has no bit encoding
(R150), and no more has a setter's payload stage. -/
def encodePacket (c : Config) : Instr → Option SetupPacket
  | .getStatus value index length =>
      some ⟨mkRequestType true Code.typeStandard Code.rcptDevice, Code.getStatus, value, index, length⟩
  | .getDescriptorDevice i index length => some (getDescriptorPacket Code.descDevice i index length)
  | .getDescriptorConfiguration i index length => some (getDescriptorPacket Code.descConfiguration i index length)
  | .getDescriptorString i index length => some (getDescriptorPacket Code.descString i index length)
  | .getDescriptorQualifier i index length => some (getDescriptorPacket Code.descQualifier i index length)
  | .getDescriptorOther t i index length => some (getDescriptorPacket t i index length)
  | .setAddress value index length =>
      some ⟨mkRequestType false Code.typeStandard Code.rcptDevice, Code.setAddress, value, index, length⟩
  | .setConfiguration value index length =>
      some ⟨mkRequestType false Code.typeStandard Code.rcptDevice, Code.setConfiguration, value, index, length⟩
  | .setInterface value index length =>
      some ⟨mkRequestType false Code.typeStandard Code.rcptInterface, Code.setInterface, value, index, length⟩
  | .epClear vendor value length =>
      some ⟨mkRequestType false (vendorOr vendor Code.typeStandard) Code.rcptEndpoint, c.reqClear, value,
        c.clearEpIndex, length⟩
  | .classIn request value index length => some (interfacePacket true Code.typeClass request value index length)
  | .classInVendor request value index length =>
      some (interfacePacket true Code.typeVendor request value index length)
  | .classOut0 request value index => some (interfacePacket false Code.typeClass request value index 0)
  | .classOut0Vendor request value index => some (interfacePacket false Code.typeVendor request value index 0)
  | .classOut request value index length => some (interfacePacket false Code.typeClass request value index length)
  | .classOutVendor request value index length =>
      some (interfacePacket false Code.typeVendor request value index length)
  | .classOutOversize vendor request value index length =>
      some (interfacePacket false (vendorOr vendor Code.typeClass) request value index length)
  | .unhandled p => some p
  | .getCurVolume ch length => some (acPacket c true Code.cur (mkField Code.fuVolume ch.byte) c.fuId length)
  | .getRangeVolume ch length => some (acPacket c true Code.range (mkField Code.fuVolume ch.byte) c.fuId length)
  | .getCurMute ch length => some (acPacket c true Code.cur (mkField Code.fuMute ch.byte) c.fuId length)
  | .getRangeMute ch length => some (acPacket c true Code.range (mkField Code.fuMute ch.byte) c.fuId length)
  | .getCurFreq ch length => some (acPacket c true Code.cur (mkField Code.csSamFreq ch) c.clkId length)
  | .getRangeFreq ch length => some (acPacket c true Code.range (mkField Code.csSamFreq ch) c.clkId length)
  | .setCurVolume ch (.setup length) =>
      some (acPacket c false Code.cur (mkField Code.fuVolume ch.byte) c.fuId length)
  | .setCurMute ch (.setup length) => some (acPacket c false Code.cur (mkField Code.fuMute ch.byte) c.fuId length)
  | .setCurFreq ch (.setup length) => some (acPacket c false Code.cur (mkField Code.csSamFreq ch) c.clkId length)
  | .acUnhandledIn request value entity length => some (acPacket c true request value entity length)
  | .acUnhandledOut request value entity (.setup length) => some (acPacket c false request value entity length)
  | .setCurVolume _ (.payload _) => none
  | .setCurMute _ (.payload _) => none
  | .setCurFreq _ (.payload _) => none
  | .acUnhandledOut _ _ _ (.payload _) => none
  | .evSetup _ | .evBufferDone _ _ _ | .evBusReset | .ep0InDoneData _ | .ep0InDoneStatus _ | .ep0OutDoneData _
  | .ep0Done _ _ | .streamOutDone _ | .feedbackInDone _ | .bufferReady | .push _ | .iterate | .tick | .resetPin
  | .dispatch _ | .ctrlInStart _ _ | .sendNextChunk | .ack | .raiseStall | .raiseFatal _ | .routeClass _
  | .invokeOutHandler _ _ | .pop | .handle _ | .readAndClearBufferReady | .activateConfiguration _
  | .computeLayout | .enableEndpoint _ | .disableEndpoint _ _ | .setAlternateSetting _ _
  | .startTransfer _ _ _ _ | .ringWrite _ _ | .ringRead _ | .ringFillRatio | .ringResize _ | .streamStart _
  | .streamStop | .tickStopped | .tickBuffering | .tickPlaying | .tickStalled | .onSamplesReceived _
  | .setIfCallbackAsIf _ | .unpack _ _ | .unpack16 _ | .unpack24 _ | .unpack32 _ | .lookup _ | .gains
  | .scale _ _ _ | .mix _ _ | .mixFrame16 _ _ _ _ | .mixFrame24 _ _ _ _ | .mixFrame32 _ _ _ _ | .fbStep => none

/-- The eight bytes of a well-formed setup-selected operation (R121). -/
def encode (c : Config) (i : Instr) : Option Bytes := (encodePacket c i).map SetupPacket.bytes

/-! ## The words of spec/opcode_table.json -/

/-- The eight bytes of the setup word `W = LE64(bytes)` (R121). -/
def wordBytes (w : Nat) : Bytes := Bits.toLE 8 w

/-- The operation the decoder reads from the `nbits`-bit setup word `w` of spec/opcode_table.json, the bits above
`nbits` being 0, under the configuration the machine has after reset. -/
def decodeTableWord (nbits w : Nat) : Option Instr :=
  match decode Config.tcfg.val (wordBytes (w % 2 ^ nbits)) with
  | .ok i => some i
  | .error _ => none

end Sys2Proof
end

