-- ==== Sys2Proof/Machine/State.lean ====
section
/-! DEFINITION. The state of PDAC2: the device context of spec/10_state.md (R20 to R44), the address spaces of
spec/20_memory.md (R80 to R86), the output trace (R60 to R64), and the model's own fields, which are marked. Reset
values are those of R50. -/

namespace Sys2Proof.Machine

/-- `ctrlPhase` (R21). -/
inductive CtrlPhase where
  | idle
  | dataIn
  | statusOut
  | statusIn
  | dataOut
deriving DecidableEq, Repr, Inhabited

/-- `pstate`, the PlaybackState (R36). -/
inductive PlaybackState where
  | stopped
  | buffering
  | playing
  | stalled
deriving DecidableEq, Repr, Inhabited

/-- The five writable address spaces (R80). ROM and GAINROM are fields of the configuration. -/
inductive Space where
  | epbuf
  | ep0in
  | ep0out
  | ring
  | hwbuf
deriving DecidableEq, Repr, Inhabited

/-- One address space's contents: (address, byte) pairs, addresses strictly rising. -/
abbrev Memory := List Host.Cell

/-- What an address that is not listed reads as: no value, so that reading it faults (log entry 11). -/
def Memory.unlisted : Option Byte := none

/-- The canonical form of a memory: addresses strictly rising, no entry equal to what an unlisted address reads as. -/
abbrev Memory.wf (m : Memory) : Prop :=
  m.Pairwise (fun x y => x.1 < y.1) ∧ ∀ c ∈ m, some c.2 ≠ Memory.unlisted

/-- ControlTransferState `cts` (R23). -/
structure ControlTransfer where
  sourceBuffer : Bytes
  totalLength  : Nat
  sentLength   : Nat
  lastLen      : Nat
deriving DecidableEq, Repr, Inhabited

/-- What the USB hardware has been told to do next on an endpoint (R40 `armed`: a length and a PID), and what it has
done about it. -/
structure Armed where
  length  : Nat
  pid     : Pid
  /-- MODEL's own: how many bytes of an OUT endpoint's buffer the hardware has stored since (R66); log entry 9. -/
  stored  : Nat
  /-- MODEL's own: whether the completion notice of an OUT endpoint has been raised since, which ends the hardware's
  writes (R66, 20 R81); log entry 9. -/
  noticed : Bool
deriving DecidableEq, Repr, Inhabited

/-- Armed just now: nothing stored, no notice raised. -/
def Armed.fresh (length : Nat) (pid : Pid) : Armed := ⟨length, pid, 0, false⟩

/-- One endpoint record `ep[n,d]` (R40); `number` and `direction` are its place in the table (log entry 14). -/
structure EpRecord where
  type          : EpType
  maxPacketSize : Nat
  bufferAddress : Nat
  nextToggleBit : Pid
  enabled       : Bool
  armed         : Option Armed
deriving DecidableEq, Repr, Inhabited

/-- The ring buffer record `rb` (R35); `storage` is the address space RING. -/
structure RingBuffer where
  storage  : Memory
  size     : Nat
  capacity : Nat
  head     : Nat
  tail     : Nat
  fullFlag : Bool
deriving DecidableEq, Repr, Inhabited

/-- The commands of the output trace (R61, R62, R64). -/
inductive Cmd where
  | hwSetAddress (a : Byte)
  | hwEnableEndpoint (n : Fin 16) (d : Dir) (type : EpType) (offset : Nat)
  | hwDisableEndpoint (n : Fin 16) (d : Dir)
  | hwStallEp0
  | hwArm (n : Fin 16) (d : Dir) (length : Nat) (pid : Pid)
  | drvStart
  | drvStop
  | drvUnmute
  | drvConfigure (bitDepth : Nat) (rate : BitVec 32)
  | drvWrite (bytes : Bytes)
  | ledFast
deriving DecidableEq, Repr

/-- What a procedure returned (R14 `return`): the model's own, log entry 5. -/
inductive RetVal where
  | none
  | bool (b : Bool)
  | count (n : Nat)
  | bytes (b : Bytes) (k : Nat)
  | ratio (q : Rat)
  | event (e : Option UsbEvent)
  | gain (g : BitVec 32)
  | gains (gL gR gM : BitVec 32)
  | int (z : Int)
deriving DecidableEq, Repr

/-- Why the machine stops with a fault. Neither happens in a state the engine reaches where every notice handled is of
bytes the hardware has stored (R66); both are safe, since the model stops where the spec gives no value. -/
inductive Fault where
  /-- Raised by a read of a byte that nothing has written since reset (70 R500: "unspecified"). Safe. -/
  | unwrittenByte (sp : Space)
  /-- Raised by an access outside an address space (20 R80 to R84, R95). Safe. -/
  | outOfSpace (sp : Space)
deriving DecidableEq, Repr

/-- Why an operation has no meaning. -/
inductive Refusal where
  /-- Raised by exec's arm of an instruction that has no meaning yet. Safe. -/
  | notModelled (mnemonic : String)
  /-- Raised by the fetch for bytes that are no setup packet (30 R138). No queued packet has another length. Safe. -/
  | notAPacket (length : Nat)
  /-- Raised by PUSH and by the hardware's stores for a notice or a store that breaks the hardware contract (10 R66,
  R67; 93 U13: "has no meaning in this spec"). Safe. -/
  | hardwareContract (n : Fin 16) (d : Dir)
  /-- Raised by a row whose selector (`ctrlPhase = …`, `pstate = …`) does not hold: the machine performs another
  operation there (41 R217, 45 R340). Safe. -/
  | notSelected
  /-- Raised by a procedure given a byte string shorter than the length it is told to move (41 R210, 43 R292,
  44 R314: the operand domains). Safe. -/
  | shortBuffer
  /-- Raised by `resize(0)` (44 R322, 93 U14). Safe. -/
  | resizeZero
  /-- Raised by MixFrame for a byte string that is no frame of the format (46 R386 to R388). Safe. -/
  | notAFrame
  /-- Raised by enableEndpoint for an endpoint address the layout does not define (43 R288). Safe. -/
  | noLayout
  /-- Raised by InvokeOutHandler for a slot that holds no handler (42 R248). Safe. -/
  | emptySlot
  /-- Raised by the payload completion when no setup packet was captured (10 R24, 41 R215). Safe. -/
  | noPendingOut
  /-- Raised by Lookup, and by what calls it (Gains, Mix, the Playing tick), for a volume outside the gain table (46
R379's assert, 00 R14, 93 U4). Safe. -/
  | volumeOutsideTable
  /-- Raised where the environment gives a period of no frames (10 R63, 70 R506, 93 U19). Safe. -/
  | driverContract
  /-- Raised where a sample format is needed and none was ever selected (10 R34, 45 R352). Safe. -/
  | noFormat
deriving DecidableEq, Repr

/-- The device context (R20), the address spaces, the output trace, and the model's own fields. -/
structure State where
  /-- The configuration record (00 R8, R10), no state: written by nothing. MODEL's own place for it, log entry 1. -/
  cfg            : WfConfig
  ctrlPhase      : CtrlPhase
  setup          : SetupPacket
  cts            : ControlTransfer
  pendingOut     : Option SetupPacket
  pendingAddress : Byte
  addressPending : Bool
  deviceAddress  : Byte
  activeConfig   : Byte
  altSetting     : List Byte
  ep0Stalled     : Bool
  fatal          : Option FatalCode
  evq            : List UsbEvent
  epOut          : Vector EpRecord 16
  epIn           : Vector EpRecord 16
  bufLayout      : List (Nat × Nat)
  chan           : Channels
  sampleRate     : BitVec 32
  format         : Option SampleFormat
  rb             : RingBuffer
  pstate         : PlaybackState
  steadyFill     : Rat
  filtered       : Rat
  bufferReady    : Bool
  outputRunning  : Bool
  ledFast        : Bool
  /-- What the audio driver answers to `getBufferSizeInFrames()` (R63), constant between two `DrvConfigure`. -/
  periodFrames   : Nat
  epbuf          : Memory
  ep0in          : Memory
  ep0out         : Memory
  hwbuf          : Memory
  trace          : List Cmd
  /-- MODEL's own: the stimuli still to come, oldest first; log entry 3. -/
  schedule       : List Stimulus
  /-- MODEL's own: the period the environment will give the driver at the next `DrvConfigure` (R63); log entry 24. -/
  nextPeriod     : Nat
  /-- MODEL's own: events the running main-loop iteration may still take (R424); log entry 4. -/
  eventsLeft     : Nat
  /-- MODEL's own: what the last procedure row returned; log entry 5. -/
  ret            : RetVal
  /-- MODEL's own: how many free values have been drawn; log entry 6. -/
  freeCount      : Nat
deriving DecidableEq, Repr

/-- An endpoint record of endpoint 0 after reset (R50). -/
def EpRecord.reset0 : EpRecord := ⟨.control, Const.ep0MaxPacket, 0, .data0, true, none⟩

/-- An endpoint record of endpoints 1 to 15 after reset (R50; the fields it leaves unspecified: log entry 12). -/
def EpRecord.resetN : EpRecord := ⟨.control, 0, 0, .data0, false, none⟩

/-- The endpoint records of one direction after reset (R50). -/
def epTableReset : Vector EpRecord 16 := (Vector.replicate 16 EpRecord.resetN).set 0 EpRecord.reset0

/-- The machine right after reset under the configuration `c` (R50, R500). -/
def State.resetOf (c : WfConfig) : State where
  cfg := c
  ctrlPhase := .idle
  setup := ⟨0, 0, 0, 0, 0⟩
  cts := ⟨[], 0, 0, 0⟩
  pendingOut := none
  pendingAddress := 0
  addressPending := false
  deviceAddress := 0
  activeConfig := 0
  altSetting := List.replicate c.val.nIfSlots 0
  ep0Stalled := false
  fatal := none
  evq := []
  epOut := epTableReset
  epIn := epTableReset
  bufLayout := []
  chan := c.val.initChan
  sampleRate := c.val.initRate
  format := none
  rb := ⟨[], c.val.initRingSize, c.val.initRingSize, 0, 0, false⟩
  pstate := .stopped
  steadyFill := 0
  filtered := 1 / 2
  bufferReady := false
  outputRunning := false
  ledFast := false
  periodFrames := c.val.periodFrames
  epbuf := []
  ep0in := []
  ep0out := []
  hwbuf := []
  trace := []
  schedule := []
  nextPeriod := c.val.periodFrames
  eventsLeft := c.val.maxEventsPerIter
  ret := .none
  freeCount := 0

/-- An endpoint record as the spec has it: what is armed is a length and a PID (R40). -/
def EpRecord.device (r : EpRecord) : EpRecord := { r with armed := r.armed.map fun a => .fresh a.length a.pid }

/-- The state of the device in a state of the model: the output trace, which no rule reads (R60), and the model's own
fields, which are no state of the device (R20, R49), each at one fixed value. -/
def State.device (s : State) : State :=
  { s with
    epOut := s.epOut.map EpRecord.device, epIn := s.epIn.map EpRecord.device, trace := [], schedule := []
    nextPeriod := 0, eventsLeft := 0, ret := .none, freeCount := 0 }

/-- The machine right after reset, under the configuration of log entry 2. -/
def State.reset : State := State.resetOf Config.tcfg

end Sys2Proof.Machine

namespace Sys2Proof

/-- The `k`-th effect EP_CLEAR can have instead of R184's, a function of the state (93 U8): what it does to the
endpoints before the request is acknowledged; `none` is a stall, which has no other effect (R454). Free value. DESIGN
CHOICE: the state it is a function of is `State.device`, so it reads neither the trace (R60) nor a field of the model's
own (log entry 19). -/
opaque Config.clearPlan (k : Nat) (s : Machine.State) : Option (List ClearAction)

end Sys2Proof
end

