-- ==== Sys2Proof/Machine/Ops.lean ====
section
/-! DEFINITION. The shared operations: outcomes of a procedure, memory, the trace, the endpoint table, and taking the
two exceptions (stall: spec/41_control_staging.md R216; fatal: spec/60_exceptions.md R456) with what ends them. -/

namespace Sys2Proof.Machine

/-- The three outcomes of an operation. -/
abbrev Outcome := Host.Outcome State Fault Refusal

/-- How a procedure ends: with a result, the caller going on; by ending the handling of the current event
(`raise Stall` and `raise Fatal` of R14, the state says which); or with no meaning. -/
inductive Res (α : Type) where
  | ok (a : α) (s : State)
  | ended (s : State)
  | fault (f : Fault)
  | refused (r : Refusal)

/-- Sequencing: what follows runs only where the procedure ended with a result. -/
def Res.bind {α β : Type} (r : Res α) (k : α → State → Res β) : Res β :=
  match r with
  | .ok a s => k a s
  | .ended s => .ended s
  | .fault f => .fault f
  | .refused e => .refused e

/-- The outcome of an operation: a raised exception is a next state (R453, R456). -/
def Res.outcome {α : Type} (r : Res α) : Outcome :=
  match r with
  | .ok _ s => .next s
  | .ended s => .next s
  | .fault f => .fault f
  | .refused e => .refused e

/-- Record what a procedure returned in `ret` (log entry 5). -/
def Res.latch {α : Type} (r : Res α) (f : α → RetVal) : Res Unit :=
  r.bind fun a s => .ok () { s with ret := f a }

/-- Forget what a procedure returned, where the caller ignores it. -/
def Res.ignore {α : Type} (r : Res α) : Res Unit := r.bind fun _ s => .ok () s

/-- R456: while `fatal` is set, no operation of either context has a step. -/
def live (s : State) (r : Res Unit) : Outcome := if s.fatal = none then r.outcome else .next s

/-- A row that applies only where its selector holds (log entry 18). -/
def selected (sel : Bool) (s : State) (r : Res Unit) : Outcome := live s (if sel then r else .refused .notSelected)

/-- The result of a function that asserts something of its operands: where the assertion fails there is no meaning
(R14), by the name `e`. -/
def Res.ofOption {α : Type} (e : Refusal) (o : Option α) (s : State) : Res α :=
  match o with
  | some a => .ok a s
  | none => .refused e

/-! ## Memory -/

/-- The byte an address reads as. -/
def Memory.read : Memory → Nat → Option Byte
  | [], _ => Memory.unlisted
  | c :: r, a => if a = c.1 then some c.2 else Memory.read r a

/-- Write one byte, keeping the canonical form. -/
def Memory.write : Memory → Nat → Byte → Memory
  | [], a, b => [(a, b)]
  | c :: r, a, b =>
    if a < c.1 then (a, b) :: c :: r
    else if a = c.1 then (a, b) :: r
    else c :: Memory.write r a b

/-- `MemRead` of `n` bytes; no value where some byte has none. -/
def Memory.readN (m : Memory) : Nat → Nat → Option Bytes
  | _, 0 => some []
  | a, n + 1 =>
    match m.read a with
    | none => none
    | some b => (m.readN (a + 1) n).map (b :: ·)

/-- `MemWrite` of a byte string. -/
def Memory.writeN (m : Memory) : Nat → Bytes → Memory
  | _, [] => m
  | a, b :: r => (m.write a b).writeN (a + 1) r

/-- The contents of an address space (R80). -/
def State.mem (s : State) : Space → Memory
  | .epbuf => s.epbuf
  | .ep0in => s.ep0in
  | .ep0out => s.ep0out
  | .ring => s.rb.storage
  | .hwbuf => s.hwbuf

/-- Replace the contents of an address space. -/
def State.setMem (s : State) : Space → Memory → State
  | .epbuf, m => { s with epbuf := m }
  | .ep0in, m => { s with ep0in := m }
  | .ep0out, m => { s with ep0out := m }
  | .ring, m => { s with rb := { s.rb with storage := m } }
  | .hwbuf, m => { s with hwbuf := m }

/-- `frameBytes` (R34). -/
def frameBytes : SampleFormat → Nat
  | .s16 => 4
  | .s24 => 8
  | .s32 => 8

/-- `bitDepth` (R34). -/
def bitDepth : SampleFormat → Nat
  | .s16 => 16
  | .s24 => 24
  | .s32 => 32

/-- Period bytes `P` of a format (R17, R63, 45). -/
def State.periodBytes (s : State) (f : SampleFormat) : Nat := s.periodFrames * frameBytes f

/-- The size of an address space in bytes (R81 to R84). -/
def State.spaceSize (s : State) : Space → Nat
  | .epbuf => s.cfg.val.sharedCapacity
  | .ep0in => 64
  | .ep0out => 64
  | .ring => s.rb.capacity
  | .hwbuf => match s.format with
    | none => 0
    | some f => s.periodBytes f

/-- `MemRead(space, addr, n)` (R14). -/
def memRead (sp : Space) (a n : Nat) (s : State) : Res Bytes :=
  if n = 0 ∨ a + n ≤ s.spaceSize sp then
    match (s.mem sp).readN a n with
    | some b => .ok b s
    | none => .fault (.unwrittenByte sp)
  else .fault (.outOfSpace sp)

/-- `MemWrite(space, addr, |b|, b)` (R14). -/
def memWrite (sp : Space) (a : Nat) (b : Bytes) (s : State) : Res Unit :=
  if b.length = 0 ∨ a + b.length ≤ s.spaceSize sp then .ok () (s.setMem sp ((s.mem sp).writeN a b))
  else .fault (.outOfSpace sp)

/-! ## Trace and endpoint table -/

/-- `emit X` (R14, R60). -/
def emit (c : Cmd) (s : State) : State := { s with trace := s.trace ++ [c] }

/-- `ep[n,d]` (R40). -/
def State.ep (s : State) (n : Fin 16) : Dir → EpRecord
  | .OUT => s.epOut[n]
  | .IN => s.epIn[n]

/-- Write `ep[n,d]`. -/
def State.setEp (s : State) (n : Fin 16) (d : Dir) (r : EpRecord) : State :=
  match d with
  | .OUT => { s with epOut := s.epOut.set n r }
  | .IN => { s with epIn := s.epIn.set n r }

/-- `ep[n,d].armed <- none`. -/
def State.disarm (s : State) (n : Fin 16) (d : Dir) : State := s.setEp n d { s.ep n d with armed := none }

/-- `ep[n,d].nextToggleBit <- t`. -/
def State.setToggle (s : State) (n : Fin 16) (d : Dir) (t : Pid) : State :=
  s.setEp n d { s.ep n d with nextToggleBit := t }

/-- `1 - pid` (R292). -/
def flipPid : Pid → Pid
  | .data0 => .data1
  | .data1 => .data0

/-- The endpoint address `number + 128 × direction` (R137). -/
def epAddress (n : Fin 16) : Dir → Nat
  | .OUT => n.val
  | .IN => n.val + 128

/-- `chan[c]` (R32). -/
def State.channel (s : State) : Chan → ChannelControl
  | .master => s.chan.master
  | .left => s.chan.left
  | .right => s.chan.right

/-- Write `chan[c]`. -/
def State.setChannel (s : State) (c : Chan) (x : ChannelControl) : State :=
  match c with
  | .master => { s with chan := { s.chan with master := x } }
  | .left => { s with chan := { s.chan with left := x } }
  | .right => { s with chan := { s.chan with right := x } }

/-! ## Exceptions -/

/-- The state after `raise Stall` (R216, R453). -/
def stallState (s : State) : State :=
  { emit .hwStallEp0 { s with ep0Stalled := true } with pendingOut := none, ctrlPhase := .idle }

/-- `raise Stall` (R216): the recoverable protocol error. It ends the handling of the current event. -/
def stall {α : Type} (s : State) : Res α := .ended (stallState s)

/-- `raise Fatal(c)` (R456): entry into the halted state. It ends the handling of the current event and iteration. -/
def fatalHalt {α : Type} (c : FatalCode) (s : State) : Res α := .ended { s with fatal := some c }

/-- The preparatory writes for every setup packet (R170): the return from a stall (R457), and the end of whatever
control transfer was in progress. -/
def acceptSetup (p : SetupPacket) (s : State) : State :=
  let s := { s with setup := p, ep0Stalled := false }
  let s := (s.disarm 0 .IN).disarm 0 .OUT
  let s := (s.setToggle 0 .IN .data1).setToggle 0 .OUT .data1
  { s with pendingOut := none, addressPending := false, ctrlPhase := .idle }

end Sys2Proof.Machine
end

