-- ==== Sys2Proof/Machine/Operands.lean ====
section
/-! DEFINITION. Operand forms: what a request rule reads from its setup packet (spec/30_encoding.md R129, R130), the
handler registry (spec/10_state.md R28), the parameter blocks (R131, R132), the descriptor list
(spec/43_endpoint_manager.md R281), the parameter functions, and the streaming words (R140 to R144). -/

namespace Sys2Proof.Machine

/-- `address`, `value[6:0]` (R129). -/
def addressOf (value : BitVec 16) : Byte := (value.extractLsb' 0 7).setWidth 8

/-- The configuration number, `value[7:0]` (R129). -/
def configurationOf (value : BitVec 16) : Byte := value.extractLsb' 0 8

/-- What a handler slot holds (R28). -/
inductive Handler where
  | audioControl
  | external
deriving DecidableEq, Repr

/-- `inHandler[i]`, none where `i ≥ N_IF_SLOTS` or the slot is empty (R28, R244). -/
def inHandler (c : Config) (i : Byte) : Option Handler :=
  if c.nIfSlots ≤ i.toNat then none
  else if i = c.acIf then some .audioControl
  else if c.extHandlers.any (fun x => decide (x.slot = i) && x.hasIn) then some .external
  else none

/-- `outHandler[i]`, none where `i ≥ N_IF_SLOTS` or the slot is empty (R28, R245, R246). -/
def outHandler (c : Config) (i : Byte) : Option Handler :=
  if c.nIfSlots ≤ i.toNat then none
  else if i = c.acIf then some .audioControl
  else if c.extHandlers.any (fun x => decide (x.slot = i) && x.hasOut) then some .external
  else none

/-- What a set-interface callback slot holds (R28). -/
inductive Callback where
  | audioStreaming
  | external
deriving DecidableEq, Repr

/-- `setIfCallback[i]`, for an interface number of up to 16 bits (R182). -/
def setIfCallback (c : Config) (i : BitVec 16) : Option Callback :=
  if c.nIfSlots ≤ i.toNat then none
  else if i.toNat = c.asIf.toNat then some .audioStreaming
  else if c.extHandlers.any (fun x => decide (x.slot.toNat = i.toNat) && x.hasSetIf) then some .external
  else none

/-- The volume range block (R132). -/
def volumeRangeBlock : Bytes := [0x01, 0x00, 0x00, 0xA0, 0x00, 0x00, 0x00, 0x01]

/-- One single-value sub-range of the sampling-frequency range block: MIN, MAX, RES (R132). -/
def rateTriplet (r : Nat) : Bytes := Bits.toLE 4 r ++ Bits.toLE 4 r ++ Bits.toLE 4 0

/-- The sampling-frequency range block: the count of sub-ranges, then the four rates (R132). -/
def freqRangeBlock : Bytes := Bits.toLE 2 Const.supportedRates.length ++ Const.supportedRates.flatMap rateTriplet

/-- The mute parameter block: 1 for muted, 0 for not (R131, R146). -/
def muteBlock (muted : Bool) : Bytes := if muted then [0x01] else [0x00]

/-- `endpoints(i, a)` (R281), for interface and alternate setting numbers of up to 16 bits (R129). -/
def endpointsOf (c : Config) (i a : Nat) : List EpItem :=
  ((itemsFrom (0, 0) c.configItems).filter fun p => decide (p.1.1.toNat = i) && decide (p.1.2.toNat = a)).map (·.2)

/-- `hasAlt(i, a)` (R281). -/
def hasAlt (c : Config) (i a : Nat) : Bool :=
  (ifacesOf c.configItems).any fun p => decide (p.1.toNat = i) && decide (p.2.toNat = a)

/-- The elements of a list, each at its first occurrence. -/
def firstOccurrences : List Byte → List Byte
  | [] => []
  | x :: r => x :: (firstOccurrences r).filter (fun y => decide (y ≠ x))

/-- `interfaces()` (R281). -/
def interfacesOf (c : Config) : List Byte := firstOccurrences ((ifacesOf c.configItems).map (·.1))

/-- `addr(e)` (R281). -/
def addrOf (e : EpItem) : Nat := epAddress e.number e.direction

/-- `RING_SIZE(f, r)` (R8). -/
def ringSizeOf (c : Config) (f : SampleFormat) (rate : BitVec 32) : Nat :=
  match c.ringSizes.find? (fun x => decide (x.1 = f) && decide (x.2.1 = rate.toNat)) with
  | some x => x.2.2
  | none => match f with
    | .s16 => c.ringSize16
    | .s24 => c.ringSize24
    | .s32 => c.ringSize32

/-- `ALT_FORMAT(a)` (R8). -/
def altFormat (c : Config) (a : BitVec 16) : Option SampleFormat :=
  (c.altFormats.find? (fun x => decide (x.1 = a.toNat))).map (·.2)

/-- The sample a 32-bit container holds as a signed integer (R142, R387, R388). -/
def sample32 (b : Bytes) : Int := (Bits.le32 b).toInt

/-- The sample a 16-bit half holds as a signed integer (R140, R386). -/
def sample16 (b : Bytes) : Int := (Bits.le16 b).toInt

/-- `floor(x × 65536) mod 2^32`, the 16.16 encoding (R144, R403). -/
def fixed1616 (x : Rat) : BitVec 32 := BitVec.ofInt 32 (x * 65536).floor

/-- The next `n` free bytes (R344, 93 U9; log entry 6). -/
def freeBytes (k : Nat) : Nat → Bytes
  | 0 => []
  | n + 1 => Config.freeByte k :: freeBytes (k + 1) n

end Sys2Proof.Machine
end

