-- ==== Sys2Proof/Machine/Endpoint.lean ====
section
/-! DEFINITION. The Endpoint/Buffer Manager (spec/43_endpoint_manager.md): transfers and the toggle bit, endpoint
enable and disable, the buffer layout, the alternate-setting switch. -/

namespace Sys2Proof.Machine

/-- The copy of `startTransfer` into the hardware transmit buffer (R292): for IN only, EP0IN for endpoint 0. -/
def copyToEndpoint (n : Fin 16) (d : Dir) (buffer : Bytes) (length : Nat) (s : State) : Res Unit :=
  match d with
  | .OUT => .ok () s
  | .IN =>
    if buffer.length < length then .refused .shortBuffer
    else if n = 0 then memWrite .ep0in 0 (buffer.take length) s
    else memWrite .epbuf (s.ep n .IN).bufferAddress (buffer.take length) s

/-- Arming (R292): the mirror and the command carry the toggle's value, and the toggle is inverted after. -/
def armEndpoint (n : Fin 16) (d : Dir) (length : Nat) (s : State) : State :=
  let r := s.ep n d
  emit (.hwArm n d length r.nextToggleBit)
    (s.setEp n d { r with armed := some (.fresh length r.nextToggleBit), nextToggleBit := flipPid r.nextToggleBit })

/-- `startTransfer(n, d, buffer, length)` (R292). -/
def startTransfer (n : Fin 16) (d : Dir) (buffer : Bytes) (length : Nat) (s : State) : Res Bool :=
  if (s.ep n d).enabled = false then .ok false s
  else if (s.ep n d).maxPacketSize < length then .ok false s
  else (copyToEndpoint n d buffer length s).bind fun _ s => .ok true (armEndpoint n d length s)

/-- `disableEndpoint(n, d)` (R282). -/
def disableEndpoint (n : Fin 16) (d : Dir) (s : State) : State :=
  let s' := if (s.ep n d).enabled then emit (.hwDisableEndpoint n d) s else s
  s'.setEp n d { s.ep n d with enabled := false, armed := none }

/-- The offset the layout gives an endpoint address (R42). -/
def layoutAt (s : State) (a : Nat) : Option Nat := s.bufLayout.lookup a

/-- `enableEndpoint(e)` (R288). DESIGN CHOICE: an item that `CONFIG_ITEMS` does not list, which R286 did not visit, is
enabled all the same where its address has a layout (log entry 34). -/
def enableEndpoint (e : EpItem) (s : State) : Res Unit :=
  match layoutAt s (addrOf e) with
  | none => .refused .noLayout
  | some off =>
    .ok () (emit (.hwEnableEndpoint e.number e.direction e.type off)
      (s.setEp e.number e.direction ⟨e.type, e.maxPacketSize, off, .data0, true, none⟩))

/-- Enable a list of endpoints in order. -/
def enableAll : List EpItem → State → Res Unit
  | [], s => .ok () s
  | e :: r, s => (enableEndpoint e s).bind fun _ s => enableAll r s

/-- Disable a list of endpoints in order. -/
def disableAll : List (Fin 16 × Dir) → State → State
  | [], s => s
  | e :: r, s => disableAll r (disableEndpoint e.1 e.2 s)

/-- Endpoint numbers 1 to 15. -/
def endpointNumbers : List (Fin 16) := [1, 2, 3, 4, 5, 6, 7, 8, 9, 10, 11, 12, 13, 14, 15]

/-- The non-control endpoints in ascending endpoint address (R137, R284: every OUT before every IN). -/
def nonControlEndpoints : List (Fin 16 × Dir) :=
  endpointNumbers.map (fun n => (n, Dir.OUT)) ++ endpointNumbers.map (fun n => (n, Dir.IN))

/-- Set a key of a map kept in ascending key order. -/
def mapSet : List (Nat × Nat) → Nat → Nat → List (Nat × Nat)
  | [], k, v => [(k, v)]
  | x :: r, k, v => if k < x.1 then (k, v) :: x :: r else if k = x.1 then (k, v) :: r else x :: mapSet r k v

/-- `maxsz` of R286 over a list of items, from the map found so far. -/
def maxSizes : List EpItem → List (Nat × Nat) → List (Nat × Nat)
  | [], m => m
  | e :: r, m => maxSizes r (mapSet m (addrOf e) (max ((m.lookup (addrOf e)).getD 0) e.maxPacketSize))

/-- The offsets of R286: each address in turn at `off`, which then moves by its size rounded up to 64. Answers the
layout and the total. -/
def assignOffsets : List (Nat × Nat) → Nat → List (Nat × Nat) → List (Nat × Nat) × Nat
  | [], off, lay => (lay, off)
  | x :: r, off, lay => assignOffsets r (off + Bits.roundup64 x.2) (mapSet lay x.1 off)

/-- The layout of a configuration and its total size (R286), over a layout already there. -/
def layoutOf (c : Config) (lay : List (Nat × Nat)) : List (Nat × Nat) × Nat :=
  assignOffsets (maxSizes ((itemsFrom (0, 0) c.configItems).map (·.2)) []) 0 lay

/-- `ComputeLayout()` (R286): `bufLayout` is written before the capacity is tested. -/
def computeLayout (s : State) : Res Unit :=
  let s' := { s with bufLayout := (layoutOf s.cfg.val s.bufLayout).1 }
  if s.cfg.val.sharedCapacity < (layoutOf s.cfg.val s.bufLayout).2 then fatalHalt .bufferAlloc s' else .ok () s'

/-- `altSetting[i]` (R27). -/
def altSettingOf (s : State) (i : Nat) : Byte := s.altSetting.getD i 0

/-- `setAlternateSetting(i, a)` (R290). -/
def setAlternateSetting (i a : BitVec 16) (s : State) : Res Bool :=
  if s.activeConfig = 0 then .ok false s
  else if hasAlt s.cfg.val i.toNat a.toNat = false then .ok false s
  else
    let old := endpointsOf s.cfg.val i.toNat (altSettingOf s i.toNat).toNat
    (enableAll (endpointsOf s.cfg.val i.toNat a.toNat) (disableAll (old.map fun e => (e.number, e.direction)) s)).bind
      fun _ s => .ok true { s with altSetting := s.altSetting.set i.toNat (a.setWidth 8) }

/-! ## Meanings -/

/-- ComputeLayout (R286). -/
def execComputeLayout (s : State) : Outcome := live s (computeLayout s)

/-- enableEndpoint (R288). -/
def execEnableEndpoint (e : EpItem) (s : State) : Outcome := live s (enableEndpoint e s)

/-- disableEndpoint (R282). -/
def execDisableEndpoint (n : Fin 16) (d : Dir) (s : State) : Outcome := live s (.ok () (disableEndpoint n d s))

/-- setAlternateSetting (R290). -/
def execSetAlternateSetting (i a : BitVec 16) (s : State) : Outcome :=
  live s ((setAlternateSetting i a s).latch .bool)

/-- startTransfer (R292). -/
def execStartTransfer (n : Fin 16) (d : Dir) (buffer : Bytes) (length : Nat) (s : State) : Outcome :=
  live s ((startTransfer n d buffer length s).latch .bool)

end Sys2Proof.Machine
end

