-- ==== Sys2Proof/Machine/Staging.lean ====
section
/-! DEFINITION. Control-transfer staging (spec/41_control_staging.md): the IN data stage, the status stages, the
deferred device address. -/

namespace Sys2Proof.Machine

/-- `SendNextChunk()` (R211). `startTransfer` cannot fail here on endpoint 0 as reset leaves it. DESIGN CHOICE: where
`sentLength` is above `totalLength`, which 10 R23 excludes while a data stage runs, 0 bytes are armed (log entry 34). -/
def sendNextChunk (s : State) : Res Unit :=
  let n := min Const.ep0MaxPacket (s.cts.totalLength - s.cts.sentLength)
  (startTransfer 0 .IN (s.cts.sourceBuffer.drop s.cts.sentLength) n s).bind fun _ s =>
    .ok () { s with cts := { s.cts with lastLen := n } }

/-- `CtrlInStart(buf, len)` (R210). -/
def ctrlInStart (buf : Bytes) (len : Nat) (s : State) : Res Unit :=
  if buf.length < len then .refused .shortBuffer
  else sendNextChunk { s with cts := ⟨buf, len, 0, 0⟩, ctrlPhase := .dataIn }

/-- `Ack()` (R214): a zero-length status IN with DATA1. -/
def ack (s : State) : Res Unit :=
  (startTransfer 0 .IN [] 0 (s.setToggle 0 .IN .data1)).bind fun _ s => .ok () { s with ctrlPhase := .statusIn }

/-- End of a handler's part of a request: acknowledge on `ok`, stall on `fail`. -/
def ackOrStall (r : Bool) (s : State) : Res Unit := if r then ack s else stall s

/-- EP0 IN completion during a data stage (R212). -/
def ep0InData (s : State) : Res Unit :=
  let s := { s with cts := { s.cts with sentLength := s.cts.sentLength + s.cts.lastLen } }
  if s.cts.sentLength < s.cts.totalLength then sendNextChunk s
  else if s.cts.lastLen = Const.ep0MaxPacket then
    (startTransfer 0 .IN [] 0 s).bind fun _ s => .ok () { s with cts := { s.cts with lastLen := 0 } }
  else
    (startTransfer 0 .OUT [] 0 (s.setToggle 0 .OUT .data1)).bind fun _ s => .ok () { s with ctrlPhase := .statusOut }

/-- The deferred application of the device address (R213). -/
def applyAddress (s : State) : State :=
  if s.addressPending then
    { emit (.hwSetAddress s.pendingAddress) { s with deviceAddress := s.pendingAddress } with addressPending := false }
  else s

/-- EP0 IN completion of a status stage (R213). -/
def ep0InStatus (s : State) : Res Unit := .ok () { applyAddress s with ctrlPhase := .idle }

/-! ## Meanings -/

/-- CtrlInStart (R210). -/
def execCtrlInStart (buf : Bytes) (len : Nat) (s : State) : Outcome := live s (ctrlInStart buf len s)

/-- SendNextChunk (R211). -/
def execSendNextChunk (s : State) : Outcome := live s (sendNextChunk s)

/-- Ack (R214). -/
def execAck (s : State) : Outcome := live s (ack s)

/-- RaiseStall (R216). -/
def execRaiseStall (s : State) : Outcome := live s (stall s)

/-- RaiseFatal (60 R456). -/
def execRaiseFatal (c : FatalCode) (s : State) : Outcome := live s (fatalHalt c s)

/-- EP0_IN_DONE.DATA (R212). The armed length stands in `cts.lastLen` (R212, 10 R67). -/
def execEp0InDoneData (_length : Nat) (s : State) : Outcome := selected (s.ctrlPhase = .dataIn) s (ep0InData s)

/-- EP0_IN_DONE.STATUS (R213). -/
def execEp0InDoneStatus (_length : Nat) (s : State) : Outcome :=
  selected (s.ctrlPhase = .statusIn) s (ep0InStatus s)

end Sys2Proof.Machine
end

