-- ==== Sys2Proof/Machine/ClassReq.lean ====
section
/-! DEFINITION. Class and vendor requests (spec/42_class_requests.md): the Audio Control handler in both directions,
routing, the single-packet OUT payload, and the completion that delivers it (spec/41_control_staging.md R215). -/

namespace Sys2Proof.Machine

/-! ## The Audio Control handler, IN direction -/

/-- GET_CUR_VOLUME's reply (R252). -/
def volumeReply (ch : Chan) (s : State) : Bytes := Bits.toLE16 (s.channel ch).volume

/-- GET_CUR_MUTE's reply: the stored flag, not the effective mute (R254). -/
def muteReply (ch : Chan) (s : State) : Bytes := muteBlock (s.channel ch).muted

/-- GET_CUR_FREQ's reply (R256). -/
def freqReply (s : State) : Bytes := Bits.toLE32 s.sampleRate

/-- `inHandler[AC_IF]` (R250): `none` is `Unhandled`, `some B` is `Reply(B)`. -/
def acIn (p : SetupPacket) (s : State) : Option Bytes :=
  let c := s.cfg.val
  if p.type ≠ Code.typeClass then none
  else if p.entity = c.fuId ∧ p.valueHi = Code.fuVolume ∧ p.valueLo.toNat ≤ 2 then
    if p.request = Code.cur then (Chan.ofByte p.valueLo).map fun ch => volumeReply ch s
    else if p.request = Code.range then some volumeRangeBlock
    else none
  else if p.entity = c.fuId ∧ p.valueHi = Code.fuMute ∧ p.valueLo.toNat ≤ 2 then
    if p.request = Code.cur then (Chan.ofByte p.valueLo).map fun ch => muteReply ch s
    else if p.request = Code.range then c.muteRangeReply
    else none
  else if p.entity = c.clkId ∧ p.valueHi = Code.csSamFreq then
    if p.request = Code.cur then some (freqReply s)
    else if p.request = Code.range then some freqRangeBlock
    else none
  else none

/-- What R244 does with a handler's answer. A reply longer than `wLength` is cut to it (93 U1, log entry 7). -/
def replyIn (reply : Option Bytes) (length : BitVec 16) (s : State) : Res Unit :=
  match reply with
  | none => stall s
  | some b => ctrlInStart b (min length.toNat b.length) s

/-- `CLASS_IN` (R244). -/
def classIn (p : SetupPacket) (s : State) : Res Unit :=
  match inHandler s.cfg.val p.slot with
  | none => stall s
  | some .audioControl => replyIn (acIn p s) p.length s
  | some .external => replyIn (Config.extIn s.freeCount p.slot p) p.length { s with freeCount := s.freeCount + 1 }

/-! ## The Audio Control handler, OUT direction -/

/-- SET_CUR_VOLUME's handler (R262, R261). -/
def setVolume (ch : Chan) (b : Bytes) (s : State) : Bool × State :=
  if b.length = 2 then (true, s.setChannel ch { s.channel ch with volume := Bits.le16 b }) else (false, s)

/-- SET_CUR_MUTE's handler (R264, R261). -/
def setMute (ch : Chan) (b : Bytes) (s : State) : Bool × State :=
  match b with
  | [x] => (true, s.setChannel ch { s.channel ch with muted := decide (x ≠ 0) })
  | _ => (false, s)

/-- SET_CUR_FREQ's handler (R266, R261). -/
def setFreq (b : Bytes) (s : State) : Bool × State :=
  if b.length = 4 ∧ (Bits.le32 b).toNat ∈ Const.supportedRates then (true, { s with sampleRate := Bits.le32 b })
  else (false, s)

/-- `outHandler[AC_IF]` (R260): the result, and the state after. -/
def acOut (p : SetupPacket) (b : Bytes) (s : State) : Bool × State :=
  if p.type ≠ Code.typeClass ∨ p.request ≠ Code.cur then (false, s)
  else if p.entity = s.cfg.val.fuId ∧ p.valueHi = Code.fuVolume ∧ p.valueLo.toNat ≤ 2 then
    match Chan.ofByte p.valueLo with
    | some ch => setVolume ch b s
    | none => (false, s)
  else if p.entity = s.cfg.val.fuId ∧ p.valueHi = Code.fuMute ∧ p.valueLo.toNat ≤ 2 then
    match Chan.ofByte p.valueLo with
    | some ch => setMute ch b s
    | none => (false, s)
  else if p.entity = s.cfg.val.clkId ∧ p.valueHi = Code.csSamFreq then setFreq b s
  else (false, s)

/-- `InvokeOutHandler(q, payload)` (R248). -/
def invokeOutHandler (q : SetupPacket) (payload : Bytes) (s : State) : Res Bool :=
  match outHandler s.cfg.val q.slot with
  | none => .refused .emptySlot
  | some .audioControl => .ok (acOut q payload s).1 (acOut q payload s).2
  | some .external =>
    .ok (Config.extOut s.freeCount q.slot q payload) { s with freeCount := s.freeCount + 1 }

/-! ## Routing -/

/-- `CLASS_OUT0` (R245). -/
def classOut0 (p : SetupPacket) (s : State) : Res Unit :=
  match outHandler s.cfg.val p.slot with
  | none => stall s
  | some _ => (invokeOutHandler p [] s).bind ackOrStall

/-- Capture the setup packet and arm the one OUT packet of its payload (R246). -/
def armPayload (p : SetupPacket) (s : State) : Res Unit :=
  (startTransfer 0 .OUT [] p.length.toNat { s with pendingOut := some p }).bind fun _ s =>
    .ok () { s with ctrlPhase := .dataOut }

/-- `CLASS_OUT` (R246): the routing test comes before the length test (R247). -/
def classOut (p : SetupPacket) (s : State) : Res Unit :=
  match outHandler s.cfg.val p.slot with
  | none => stall s
  | some _ => if Const.ctrlOutMax < p.length.toNat then fatalHalt .oversizeOut s else armPayload p s

/-- The OUT half of `RouteClass` (R242). -/
def routeOut (p : SetupPacket) (s : State) : Res Unit := if p.length = 0 then classOut0 p s else classOut p s

/-- `RouteClass(p)` (R242). -/
def routeClass (p : SetupPacket) (s : State) : Res Unit := if p.dirIn then classIn p s else routeOut p s

/-! ## Completions of endpoint 0 that need a handler -/

/-- EP0 OUT completion with a class payload (41 R215). -/
def ep0OutData (len : Nat) (s : State) : Res Unit :=
  (memRead .ep0out 0 len s).bind fun payload s =>
    match s.pendingOut with
    | none => .refused .noPendingOut
    | some q => (invokeOutHandler q payload { s with pendingOut := none }).bind ackOrStall

/-- `OnEp0Done(dir, len)` (41 R217, R218). -/
def onEp0Done (d : Dir) (len : Nat) (s : State) : Res Unit :=
  match d, s.ctrlPhase with
  | .IN, .dataIn => ep0InData s
  | .IN, .statusIn => ep0InStatus s
  | .OUT, .statusOut => .ok () { s with ctrlPhase := .idle }
  | .OUT, .dataOut => ep0OutData len s
  | _, _ => .ok () s

/-! ## Meanings -/

/-- EP0_OUT_DONE.DATA (41 R215). -/
def execEp0OutDoneData (length : Nat) (s : State) : Outcome :=
  selected (s.ctrlPhase = .dataOut) s (ep0OutData length s)

/-- EP0_DONE (41 R217, R218). -/
def execEp0Done (d : Dir) (length : Nat) (s : State) : Outcome := live s (onEp0Done d length s)

/-- RouteClass (R242). -/
def execRouteClass (p : SetupPacket) (s : State) : Outcome := live s (routeClass p s)

/-- InvokeOutHandler (R248). -/
def execInvokeOutHandler (q : SetupPacket) (payload : Bytes) (s : State) : Outcome :=
  live s ((invokeOutHandler q payload s).latch .bool)

/-- CLASS_IN (R244). -/
def execClassIn (request : Byte) (value index length : BitVec 16) (s : State) : Outcome :=
  live s (classIn (interfacePacket true Code.typeClass request value index length) s)

/-- CLASS_IN.VENDOR (R244). -/
def execClassInVendor (request : Byte) (value index length : BitVec 16) (s : State) : Outcome :=
  live s (classIn (interfacePacket true Code.typeVendor request value index length) s)

/-- CLASS_OUT0 (R245). -/
def execClassOut0 (request : Byte) (value index : BitVec 16) (s : State) : Outcome :=
  live s (classOut0 (interfacePacket false Code.typeClass request value index 0) s)

/-- CLASS_OUT0.VENDOR (R245). -/
def execClassOut0Vendor (request : Byte) (value index : BitVec 16) (s : State) : Outcome :=
  live s (classOut0 (interfacePacket false Code.typeVendor request value index 0) s)

/-- CLASS_OUT (R246). -/
def execClassOut (request : Byte) (value index length : BitVec 16) (s : State) : Outcome :=
  live s (classOut (interfacePacket false Code.typeClass request value index length) s)

/-- CLASS_OUT.VENDOR (R246). -/
def execClassOutVendor (request : Byte) (value index length : BitVec 16) (s : State) : Outcome :=
  live s (classOut (interfacePacket false Code.typeVendor request value index length) s)

/-- CLASS_OUT.OVERSIZE (R247). -/
def execClassOutOversize (_vendor : Bool) (_request : Byte) (_value _index _length : BitVec 16) (s : State) :
    Outcome := live s (fatalHalt .oversizeOut s)

/-- GET_CUR_VOLUME (R252). -/
def execGetCurVolume (ch : Chan) (length : BitVec 16) (s : State) : Outcome :=
  live s (replyIn (some (volumeReply ch s)) length s)

/-- GET_RANGE_VOLUME (R253). -/
def execGetRangeVolume (_ch : Chan) (length : BitVec 16) (s : State) : Outcome :=
  live s (replyIn (some volumeRangeBlock) length s)

/-- GET_CUR_MUTE (R254). -/
def execGetCurMute (ch : Chan) (length : BitVec 16) (s : State) : Outcome :=
  live s (replyIn (some (muteReply ch s)) length s)

/-- GET_RANGE_MUTE (R255). -/
def execGetRangeMute (_ch : Chan) (length : BitVec 16) (s : State) : Outcome :=
  live s (replyIn s.cfg.val.muteRangeReply length s)

/-- GET_CUR_FREQ (R256): the channel byte is not examined (R251). -/
def execGetCurFreq (_chByte : Byte) (length : BitVec 16) (s : State) : Outcome :=
  live s (replyIn (some (freqReply s)) length s)

/-- GET_RANGE_FREQ (R257). -/
def execGetRangeFreq (_chByte : Byte) (length : BitVec 16) (s : State) : Outcome :=
  live s (replyIn (some freqRangeBlock) length s)

/-- The setup stage of an OUT request to the Audio Control interface: R245 or R246 on its packet. -/
def acSetupStage (request : Byte) (value : BitVec 16) (entity : Byte) (length : BitVec 16) (s : State) : Res Unit :=
  routeOut (acPacket s.cfg.val false request value entity length) s

/-- What a setter returns, with the state it leaves, as a procedure's result. -/
def setterResult (r : Bool × State) : Res Unit := (Res.ok r.1 r.2).latch .bool

/-- SET_CUR_VOLUME: its setup word (R245, R246), or its handler on the payload (R262). -/
def execSetCurVolume (ch : Chan) (stage : OutStage) (s : State) : Outcome :=
  live s <| match stage with
    | .setup length => acSetupStage Code.cur (mkField Code.fuVolume ch.byte) s.cfg.val.fuId length s
    | .payload b => setterResult (setVolume ch b s)

/-- SET_CUR_MUTE: its setup word (R245, R246), or its handler on the payload (R264). -/
def execSetCurMute (ch : Chan) (stage : OutStage) (s : State) : Outcome :=
  live s <| match stage with
    | .setup length => acSetupStage Code.cur (mkField Code.fuMute ch.byte) s.cfg.val.fuId length s
    | .payload b => setterResult (setMute ch b s)

/-- SET_CUR_FREQ: its setup word (R245, R246), or its handler on the payload (R266). -/
def execSetCurFreq (chByte : Byte) (stage : OutStage) (s : State) : Outcome :=
  live s <| match stage with
    | .setup length => acSetupStage Code.cur (mkField Code.csSamFreq chByte) s.cfg.val.clkId length s
    | .payload b => setterResult (setFreq b s)

/-- AC_UNHANDLED.IN (R258, R244). -/
def execAcUnhandledIn (_request : Byte) (_value : BitVec 16) (_entity : Byte) (_length : BitVec 16) (s : State) :
    Outcome := live s (stall s)

/-- AC_UNHANDLED.OUT (R268): for a payload the stall comes after the payload, so its setup word arms it (R246). -/
def execAcUnhandledOut (request : Byte) (value : BitVec 16) (entity : Byte) (stage : OutStage) (s : State) :
    Outcome :=
  live s <| match stage with
    | .setup length => acSetupStage request value entity length s
    | .payload _ => setterResult (false, s)

end Sys2Proof.Machine
end

