-- ==== Sys2Proof/Machine/Feedback.lean ====
section
/-! DEFINITION. The feedback controller (spec/47_feedback.md), in exact rationals (R401). -/

namespace Sys2Proof.Machine

/-- `nominalRatePerMs` (R402). -/
def nominalRate (s : State) : Rat := (s.sampleRate.toNat : Rat) / 1000

/-- The filter after the step (R402): updated while Playing, else reset to 1/2. -/
def nextFiltered (s : State) : Rat :=
  if s.pstate = .playing then s.filtered + (s.steadyFill - s.filtered) / 100 else 1 / 2

/-- The adjusted rate the step reports (R402): the error uses the updated filter. -/
def adjustedRate (s : State) : Rat :=
  if s.pstate = .playing then nominalRate s * (1 - (nextFiltered s - 1 / 2) / 100) else nominalRate s

/-- The feedback value (R402, R403). -/
def feedbackValue (s : State) : BitVec 32 := fixed1616 (adjustedRate s)

/-- `FbStep()` (R402). The result of the arming is ignored (R404). -/
def fbStep (s : State) : Res Unit :=
  (startTransfer s.cfg.val.epFbIn .IN (Bits.toLE32 (feedbackValue s)) 4
    { s with filtered := nextFiltered s }).ignore

/-! ## Meanings -/

/-- FbStep (R402). -/
def execFbStep (s : State) : Outcome := live s (fbStep s)

/-- FEEDBACK_IN_DONE (R402, R405): each feedback completion computes and arms the next value. DEDUCED: the row is what
48 R426 calls after its own test and clearing of `armed`, so it does neither (log entry 31). -/
def execFeedbackInDone (_length : Nat) (s : State) : Outcome := live s (fbStep s)

end Sys2Proof.Machine
end

