-- ==== Sys2Proof/Machine/Flags.lean ====
section
/-! DEFINITION. Every flag computation of the spec (spec/10_state.md R45): the full flag and the derived ring
quantities (spec/44_ring_buffer.md R311), the fill-level tests (R320 and spec/45_playback.md), effective mute
(spec/46_mixer.md R380), the selectors over `ctrlPhase`, and the hardware contract on completion notices. -/

namespace Sys2Proof.Machine

/-- `count` (R311). `(tail − head) mod size`, with `head < size`, is `(tail + size − head) mod size`. -/
def ringCount (rb : RingBuffer) : Nat :=
  if rb.fullFlag then rb.size else (rb.tail + rb.size - rb.head) % rb.size

/-- `availableSpace` (R311). -/
def ringSpace (rb : RingBuffer) : Nat := rb.size - ringCount rb

/-- `fillRatio()` (R320): the exact rational `count / size`. -/
def fillRatio (rb : RingBuffer) : Rat := (ringCount rb : Rat) / (rb.size : Rat)

/-- The full flag after a write of `k` bytes that left the write index at `tail` (R314: set only). -/
def fullAfterWrite (rb : RingBuffer) (k tail : Nat) : Bool := rb.fullFlag || (decide (0 < k) && decide (tail = rb.head))

/-- The full flag after a read of `k` bytes (R318: cleared only). -/
def fullAfterRead (rb : RingBuffer) (k : Nat) : Bool := rb.fullFlag && decide (k = 0)

/-- `fillRatio() ≥ 1/2`, the safe level (R342, R320). -/
def atSafeLevel (rb : RingBuffer) : Bool := decide (rb.size ≤ 2 * ringCount rb)

/-- `fillRatio() ≤ 4/25`, the underrun level (R344, R320). -/
def atUnderrun (rb : RingBuffer) : Bool := decide (25 * ringCount rb ≤ 4 * rb.size)

/-- `fillRatio() ≥ 2/5`, the recovery level (R346, R320). -/
def atRecovery (rb : RingBuffer) : Bool := decide (2 * rb.size ≤ 5 * ringCount rb)

/-- Effective mute of the left side (R380). -/
def effLeft (ch : Channels) : Bool := ch.master.muted || ch.left.muted

/-- Effective mute of the right side (R380). -/
def effRight (ch : Channels) : Bool := ch.master.muted || ch.right.muted

/-- The phase expects a completion of endpoint 0 in direction `d` (R217). -/
def phaseExpects : CtrlPhase → Dir → Bool
  | .dataIn, .IN => true
  | .statusIn, .IN => true
  | .statusOut, .OUT => true
  | .dataOut, .OUT => true
  | _, _ => false

/-- The hardware contract on a completion notice (R66, R67, 93 U13): an IN notice reports the armed length, an OUT
notice at most the armed length, its bytes already stored. A notice for a disabled endpoint is ignored when handled
(R426), and an endpoint 0 notice in a phase that expects none is handled (41 R218): neither is a violation. DESIGN CHOICE:
the phase tested is the one at the push, where R218 does not say which moment it means (log entry 32), and so is
`enabled`, which R519 sees at the handling (log entry 33). -/
def completionAllowed (s : State) (n : Fin 16) (d : Dir) (len : Nat) : Bool :=
  !(s.ep n d).enabled || (decide (n = 0) && !phaseExpects s.ctrlPhase d) ||
    match (s.ep n d).armed, d with
    | none, _ => false
    | some a, .IN => decide (a.length = len)
    | some a, .OUT => decide (len ≤ a.length) && decide (len ≤ a.stored)

/-- The bytes the hardware may store for an OUT transfer: at most the armed length, between the arming and the
completion notice (R66, 20 R81, R104). -/
def storeAllowed (s : State) (n : Fin 16) (b : Bytes) : Bool :=
  (s.ep n .OUT).enabled &&
    match (s.ep n .OUT).armed with
    | none => false
    | some a => !a.noticed && decide (b.length ≤ a.length)

end Sys2Proof.Machine
end

