-- ==== Sys2Proof/Machine/Mixer.lean ====
section
/-! DEFINITION. Gain table and mixer (spec/46_mixer.md). -/

namespace Sys2Proof.Machine

/-- `volume /t 256`, the integer dB of a stored volume, truncating toward zero (R379, R13). -/
def volumeDb (volume : BitVec 16) : Int := volume.toInt.tdiv Const.dbScale

/-- `Lookup(volume)` (R379): the table's entry; none where R379's assert fails. -/
def lookup (c : Config) (volume : BitVec 16) : Option (BitVec 32) :=
  let dB := volumeDb volume
  if -96 ≤ dB ∧ dB ≤ 0 then c.gainTable[(dB + 96).toNat]? else none

/-- The gain of one side: 0 where it is muted, and then not looked up (R381). -/
def sideGain (c : Config) (muted : Bool) (volume : BitVec 16) : Option (BitVec 32) :=
  if muted then some 0 else lookup c volume

/-- `Gains()` (R381): left, right, master; none where a lookup has no meaning. -/
def gains (c : Config) (ch : Channels) : Option (BitVec 32 × BitVec 32 × BitVec 32) :=
  (sideGain c (effLeft ch) ch.left.volume).bind fun gL =>
  (sideGain c (effRight ch) ch.right.volume).bind fun gR =>
  (lookup c ch.master.volume).map fun gM => (gL, gR, gM)

/-- `Scale(s, gC, gM)` (R383), over the mathematical integers. R383's operands are gains of at most 2^31; that a gain
above is put into the same formula is DESIGN CHOICE (log entry 30). -/
def scale (sample : Int) (gC gM : BitVec 32) : Int :=
  Bits.asr (Bits.asr (sample * gC.toNat) Const.gainShift * gM.toNat) Const.gainShift

/-- `MixFrame`, 16-bit format (R386). -/
def mixFrame16 (x : Bytes) (gL gR gM : BitVec 32) : Bytes :=
  Bits.toLE16 (BitVec.ofInt 16 (scale (sample16 x) gL gM))
    ++ Bits.toLE16 (BitVec.ofInt 16 (scale (sample16 (x.drop 2)) gR gM))

/-- `MixFrame` on two 32-bit words, the container of the 24-bit and 32-bit formats. -/
def mixFrameWords (x : Bytes) (gL gR gM : BitVec 32) : Bytes :=
  Bits.toLE32 (BitVec.ofInt 32 (scale (sample32 x) gL gM))
    ++ Bits.toLE32 (BitVec.ofInt 32 (scale (sample32 (x.drop 4)) gR gM))

/-- `MixFrame`, 24-bit format (R387). -/
def mixFrame24 (x : Bytes) (gL gR gM : BitVec 32) : Bytes := mixFrameWords x gL gR gM

/-- `MixFrame`, 32-bit format (R388). -/
def mixFrame32 (x : Bytes) (gL gR gM : BitVec 32) : Bytes := mixFrameWords x gL gR gM

/-- `MixFrame` of a format (R384). -/
def mixFrame (f : SampleFormat) (x : Bytes) (gL gR gM : BitVec 32) : Bytes :=
  match f with
  | .s16 => mixFrame16 x gL gR gM
  | .s24 => mixFrame24 x gL gR gM
  | .s32 => mixFrame32 x gL gR gM

/-- The first `nf` frames of `size` bytes, each mapped, in order. -/
def mapFrames (size : Nat) (g : Bytes → Bytes) : Nat → Bytes → Bytes
  | 0, _ => []
  | nf + 1, b => g (b.take size) ++ mapFrames size g nf (b.drop size)

/-- `Mix(f, b)` (R384): the gains are taken once; bytes beyond the last whole frame are not returned; none where a
gain has no meaning. -/
def mix (c : Config) (ch : Channels) (f : SampleFormat) (b : Bytes) : Option Bytes :=
  (gains c ch).map fun g =>
    mapFrames (frameBytes f) (fun x => mixFrame f x g.1 g.2.1 g.2.2) (b.length / frameBytes f) b

/-! ## Meanings -/

/-- Lookup (R379). -/
def execLookup (volume : BitVec 16) (s : State) : Outcome :=
  live s ((Res.ofOption .volumeOutsideTable (lookup s.cfg.val volume) s).latch .gain)

/-- Gains (R381). -/
def execGains (s : State) : Outcome :=
  live s ((Res.ofOption .volumeOutsideTable (gains s.cfg.val s.chan) s).latch fun g => .gains g.1 g.2.1 g.2.2)

/-- Scale (R383), a gain above 2^31 not refused (DESIGN CHOICE, log entry 30). -/
def execScale (sample : Int) (gC gM : BitVec 32) (s : State) : Outcome :=
  live s ((Res.ok (scale sample gC gM) s).latch .int)

/-- Mix (R384). -/
def execMix (f : SampleFormat) (b : Bytes) (s : State) : Outcome :=
  live s ((Res.ofOption .volumeOutsideTable (mix s.cfg.val s.chan f b) s).latch fun m => .bytes m m.length)

/-- MixFrame on one frame of `size` bytes, refusing a byte string that is none (R386 to R388), but not a gain above 2^31,
under which the scaled sample is cut to its word (DESIGN CHOICE, log entry 30). -/
def onFrame (size : Nat) (x : Bytes) (m : Bytes) (s : State) : Outcome :=
  live s (if x.length = size then (Res.ok m s).latch fun m => .bytes m m.length else .refused .notAFrame)

/-- MixFrame.16 (R386). -/
def execMixFrame16 (x : Bytes) (gL gR gM : BitVec 32) (s : State) : Outcome := onFrame 4 x (mixFrame16 x gL gR gM) s

/-- MixFrame.24 (R387). -/
def execMixFrame24 (x : Bytes) (gL gR gM : BitVec 32) (s : State) : Outcome := onFrame 8 x (mixFrame24 x gL gR gM) s

/-- MixFrame.32 (R388). -/
def execMixFrame32 (x : Bytes) (gL gR gM : BitVec 32) (s : State) : Outcome := onFrame 8 x (mixFrame32 x gL gR gM) s

end Sys2Proof.Machine
end

