-- ==== Sys2Proof/Machine/Ring.lean ====
section
/-! DEFINITION. The ring buffer (spec/44_ring_buffer.md). -/

namespace Sys2Proof.Machine

/-- The writes of R314: consecutive bytes from index `i` on, each index taken modulo the size. -/
def storeRing (size : Nat) : Nat → Bytes → State → Res Unit
  | _, [], s => .ok () s
  | i, b :: r, s => (memWrite .ring (i % size) [b] s).bind fun _ s => storeRing size (i + 1) r s

/-- The reads of R318: `k` bytes from index `i` on, each index taken modulo the size. -/
def loadRing (size : Nat) : Nat → Nat → State → Res Bytes
  | _, 0, s => .ok [] s
  | i, k + 1, s => (memRead .ring (i % size) 1 s).bind fun b s =>
      (loadRing size (i + 1) k s).bind fun r s => .ok (b ++ r) s

/-- `write(data, n)` (R314): the number of bytes written. -/
def ringWrite (data : Bytes) (n : Nat) (s : State) : Res Nat :=
  if data.length < n then .refused .shortBuffer
  else
    let k := min n (ringSpace s.rb)
    (storeRing s.rb.size s.rb.tail (data.take k) s).bind fun _ s =>
      let tail := (s.rb.tail + k) % s.rb.size
      .ok k { s with rb := { s.rb with tail := tail, fullFlag := fullAfterWrite s.rb k tail } }

/-- `read(buf, n)` (R318): the bytes read, `k` of them. -/
def ringRead (n : Nat) (s : State) : Res Bytes :=
  let k := min n (ringCount s.rb)
  (loadRing s.rb.size s.rb.head k s).bind fun b s =>
    .ok b { s with rb := { s.rb with
      head := (s.rb.head + k) % s.rb.size, fullFlag := fullAfterRead s.rb k } }

/-- `resize(newSize)` (R322). The bytes of grown storage are unspecified: nothing is listed. -/
def ringResize (newSize : Nat) (s : State) : Res Unit :=
  if newSize = 0 then .refused .resizeZero
  else if newSize = s.rb.size then .ok () s
  else
    let grown := s.rb.capacity < newSize
    .ok () { s with rb := {
      storage := if grown then [] else s.rb.storage
      size := newSize
      capacity := if grown then newSize else s.rb.capacity
      head := 0, tail := 0, fullFlag := false } }

/-! ## Meanings -/

/-- RingBuffer.write (R314). -/
def execRingWrite (data : Bytes) (n : Nat) (s : State) : Outcome := live s ((ringWrite data n s).latch .count)

/-- RingBuffer.read (R318). -/
def execRingRead (n : Nat) (s : State) : Outcome := live s ((ringRead n s).latch fun b => .bytes b b.length)

/-- RingBuffer.fillRatio (R320). -/
def execRingFillRatio (s : State) : Outcome := live s ((Res.ok (fillRatio s.rb) s).latch .ratio)

/-- RingBuffer.resize (R322). -/
def execRingResize (newSize : Nat) (s : State) : Outcome := live s (ringResize newSize s)

end Sys2Proof.Machine
end

