-- ==== Sys2Proof/Machine/Playback.lean ====
section
/-! DEFINITION. Playback state machine, ingress and sample unpack (spec/45_playback.md), and the buffer-ready flag
they consume (spec/48_event_queue.md R434). -/

namespace Sys2Proof.Machine

/-- `ReadAndClearBufferReady()` (48 R434). -/
def readAndClear (s : State) : Bool × State := (s.bufferReady, { s with bufferReady := false })

/-- `zeros(P)`: one period of silence. -/
def zeros (n : Nat) : Bytes := List.replicate n 0

/-- `emit DrvWrite(b)`: the whole hardware write buffer is filled with `b` (R62, 20 R84). -/
def drvWrite (b : Bytes) (s : State) : State := emit (.drvWrite b) { s with hwbuf := Memory.writeN [] 0 b }

/-- `emit DrvStop ; outputRunning <- false`. -/
def stopOutput (s : State) : State := { emit .drvStop s with outputRunning := false }

/-- `emit DrvConfigure(bitDepth(f), sampleRate)`: from here on the driver has the period the environment gives it
(R63). -/
def configureOutput (f : SampleFormat) (s : State) : State :=
  emit (.drvConfigure (bitDepth f) s.sampleRate) { s with periodFrames := s.nextPeriod }

/-- `streamStart(f)` (R336). -/
def streamStart (f : SampleFormat) (s : State) : Res Unit :=
  let s := configureOutput f (stopOutput s)
  (ringResize (ringSizeOf s.cfg.val f s.sampleRate) { s with format := some f }).bind fun _ s =>
    .ok () { s with pstate := .buffering }

/-- `streamStop()` (R338). -/
def streamStop (s : State) : State := { stopOutput s with pstate := .stopped }

/-- `setIfCallback[AS_IF](a)` (R350): a `startTransfer` that fails is ignored. -/
def streamingCallback (a : BitVec 16) (s : State) : Res Bool :=
  if a = 0 then .ok true (streamStop s)
  else
    match altFormat s.cfg.val a with
    | none => .ok false s
    | some f =>
      (streamStart f s).bind fun _ s =>
      (startTransfer s.cfg.val.epStreamOut .OUT [] (s.ep s.cfg.val.epStreamOut .OUT).maxPacketSize s).bind fun _ s =>
      (fbStep s).bind fun _ s => .ok true s

/-- Tick in `Stopped`: nothing (R341). -/
def stoppedTick (s : State) : Res Unit := .ok () s

/-- Tick in `Buffering` (R342). -/
def bufferingTick (s : State) : Res Unit :=
  if atSafeLevel s.rb then
    .ok () { emit .drvUnmute { emit .drvStart s with outputRunning := true } with pstate := .playing }
  else .ok () s

/-- One period of silence into the hardware buffer, whose format must have been selected. -/
def writeSilence (s : State) : Res Unit :=
  match s.format with
  | none => .refused .noFormat
  | some f => .ok () (drvWrite (zeros (s.periodBytes f)) s)

/-- The period a Playing tick writes (R344): what the mixer made of the bytes read, then free bytes up to the period. -/
def writeMixed (f : SampleFormat) (m : Bytes) (s : State) : State :=
  let missing := s.periodBytes f - m.length
  { drvWrite (m ++ freeBytes s.freeCount missing) s with freeCount := s.freeCount + missing }

/-- The Playing tick once a free buffer was reported (R344). -/
def playPeriod (s : State) : Res Unit :=
  let s := { s with steadyFill := fillRatio s.rb }
  if atUnderrun s.rb then
    (writeSilence s).bind fun _ s => .ok () (emit .ledFast { s with pstate := .stalled, ledFast := true })
  else
    match s.format with
    | none => .refused .noFormat
    | some f => 
      (ringRead (s.periodBytes f) s).bind fun b s =>
      (Res.ofOption .volumeOutsideTable (mix s.cfg.val s.chan f b) s).bind fun m s => .ok () (writeMixed f m s)

/-- Tick in `Playing` (R344). -/
def playingTick (s : State) : Res Unit :=
  let r := readAndClear s
  if r.1 then playPeriod r.2 else .ok () r.2

/-- Tick in `Stalled` (R346). -/
def stalledTick (s : State) : Res Unit :=
  if atRecovery s.rb then .ok () { s with pstate := .playing }
  else
    let r := readAndClear s
    if r.1 then writeSilence r.2 else .ok () r.2

/-- `PlaybackTick()` (R340). -/
def playbackTick (s : State) : Res Unit :=
  match s.pstate with
  | .stopped => stoppedTick s
  | .buffering => bufferingTick s
  | .playing => playingTick s
  | .stalled => stalledTick s

/-- `onSamplesReceived(s)` (R348). -/
def onSamplesReceived (samples : Bytes) (s : State) : Res Unit :=
  (ringWrite samples samples.length s).bind fun _ s =>
    .ok () (if s.pstate = .playing then s else { s with steadyFill := fillRatio s.rb })

/-- The whole 32-bit words of a payload, a trailing partial word dropped (R354). -/
def wholeWords (payload : Bytes) : Bytes := payload.take (payload.length / 4 * 4)

/-- Unpack, 16-bit format: the identity on the words (R355). -/
def unpack16 (payload : Bytes) : Bytes := wholeWords payload

/-- One 24-bit container brought down to bits 23:0 and sign-extended (R356, R141). -/
def unpackWord24 (x : Bytes) : Bytes := Bits.toLE32 (BitVec.ofInt 32 (Bits.asr (sample32 x) 8))

/-- Unpack, 24-bit format (R356). -/
def unpack24 (payload : Bytes) : Bytes := mapFrames 4 unpackWord24 (payload.length / 4) payload

/-- Unpack, 32-bit format: the identity on the words (R357). -/
def unpack32 (payload : Bytes) : Bytes := wholeWords payload

/-- `Unpack(f, payload)` (R354). -/
def unpack (f : SampleFormat) (payload : Bytes) : Bytes :=
  match f with
  | .s16 => unpack16 payload
  | .s24 => unpack24 payload
  | .s32 => unpack32 payload

/-- `OnStreamOutDone(len)` (R352). -/
def onStreamOutDone (len : Nat) (s : State) : Res Unit :=
  let n := s.cfg.val.epStreamOut
  (memRead .epbuf (s.ep n .OUT).bufferAddress len s).bind fun payload s =>
    match s.format with
    | none => .refused .noFormat
    | some f =>
      (onSamplesReceived (unpack f payload) s).bind fun _ s =>
      (startTransfer n .OUT [] (s.ep n .OUT).maxPacketSize s).ignore

/-! ## Meanings -/

/-- TICK (R340). -/
def execTick (s : State) : Outcome := live s (playbackTick s)

/-- PlaybackTick.Stopped (R341). -/
def execTickStopped (s : State) : Outcome := selected (s.pstate = .stopped) s (stoppedTick s)

/-- PlaybackTick.Buffering (R342). -/
def execTickBuffering (s : State) : Outcome := selected (s.pstate = .buffering) s (bufferingTick s)

/-- PlaybackTick.Playing (R344). -/
def execTickPlaying (s : State) : Outcome := selected (s.pstate = .playing) s (playingTick s)

/-- PlaybackTick.Stalled (R346). -/
def execTickStalled (s : State) : Outcome := selected (s.pstate = .stalled) s (stalledTick s)

/-- streamStart (R336). -/
def execStreamStart (f : SampleFormat) (s : State) : Outcome := live s (streamStart f s)

/-- streamStop (R338). -/
def execStreamStop (s : State) : Outcome := live s (.ok () (streamStop s))

/-- onSamplesReceived (R348). -/
def execOnSamplesReceived (samples : Bytes) (s : State) : Outcome := live s (onSamplesReceived samples s)

/-- setIfCallback.AS_IF (R350). -/
def execSetIfCallbackAsIf (a : BitVec 16) (s : State) : Outcome := live s ((streamingCallback a s).latch .bool)

/-- STREAM_OUT_DONE (R352). -/
def execStreamOutDone (length : Nat) (s : State) : Outcome := live s (onStreamOutDone length s)

/-- A procedure that returns a byte string. -/
def returnBytes (b : Bytes) (s : State) : Outcome := live s ((Res.ok b s).latch fun b => .bytes b b.length)

/-- Unpack (R354). -/
def execUnpack (f : SampleFormat) (payload : Bytes) (s : State) : Outcome := returnBytes (unpack f payload) s

/-- Unpack.16 (R355). -/
def execUnpack16 (payload : Bytes) (s : State) : Outcome := returnBytes (unpack16 payload) s

/-- Unpack.24 (R356). -/
def execUnpack24 (payload : Bytes) (s : State) : Outcome := returnBytes (unpack24 payload) s

/-- Unpack.32 (R357). -/
def execUnpack32 (payload : Bytes) (s : State) : Outcome := returnBytes (unpack32 payload) s

/-- ReadAndClearBufferReady (48 R434). -/
def execReadAndClearBufferReady (s : State) : Outcome :=
  live s ((Res.ok (readAndClear s).1 (readAndClear s).2).latch .bool)

end Sys2Proof.Machine
end

