-- ==== Sys2Proof/Machine/Control.lean ====
section
/-! DEFINITION. Configuration activation (spec/43_endpoint_manager.md R284), the standard requests and the setup
dispatch (spec/40_control_dispatch.md). -/

namespace Sys2Proof.Machine

/-! ## Configuration activation -/

/-- Invoke `setIfCallback[i]` with alternate setting `a`; an interface without a callback counts as success
(R182, R284). -/
def invokeCallback (i a : BitVec 16) (s : State) : Res Bool :=
  match setIfCallback s.cfg.val i with
  | none => .ok true s
  | some .audioStreaming => streamingCallback a s
  | some .external => .ok (Config.extSetIf s.freeCount (i.setWidth 8) a) { s with freeCount := s.freeCount + 1 }

/-- The second walk of `activateConfiguration` (R284): each interface's alternate setting 0, then its callback. -/
def activateInterfaces : List Byte → State → Res Bool
  | [], s => .ok true s
  | i :: r, s =>
    (enableAll (endpointsOf s.cfg.val i.toNat 0) s).bind fun _ s =>
    (invokeCallback (i.setWidth 16) 0 s).bind fun ok s => if ok then activateInterfaces r s else .ok false s

/-- The state in which no configuration is active (R284, first part): endpoints 1 to 15 disabled. -/
def deactivate (s : State) : State :=
  { disableAll nonControlEndpoints s with
    bufLayout := [], altSetting := s.altSetting.map fun _ => 0, activeConfig := 0 }

/-- `activateConfiguration(n)` (R284). -/
def activateConfiguration (n : Byte) (s : State) : Res Bool :=
  if n ≠ 0 ∧ n ≠ s.cfg.val.configValue then .ok false s
  else if n = 0 then .ok true (deactivate s)
  else (computeLayout (deactivate s)).bind fun _ s =>
    activateInterfaces (interfacesOf s.cfg.val) { s with activeConfig := n }

/-! ## Standard requests -/

/-- `GET_STATUS` (R174). A reply longer than `wLength` is cut to it (93 U1, log entry 7). -/
def getStatus (length : BitVec 16) (s : State) : Res Unit := replyIn (some Const.statusReply) length s

/-- `GET_DESCRIPTOR.DEVICE` (R175). -/
def getDescriptorDevice (length : BitVec 16) (s : State) : Res Unit :=
  ctrlInStart s.cfg.val.deviceDescriptor (min length.toNat Const.deviceDescLen) s

/-- `GET_DESCRIPTOR.CONFIGURATION` (R176). -/
def getDescriptorConfiguration (length : BitVec 16) (s : State) : Res Unit :=
  ctrlInStart s.cfg.val.configDescriptor (min length.toNat s.cfg.val.configDescriptor.length) s

/-- `GET_DESCRIPTOR.STRING` (R177; 93 U1, log entry 7). -/
def getDescriptorString (length : BitVec 16) (s : State) : Res Unit :=
  replyIn (some s.cfg.val.stringPlaceholder) length s

/-- `SET_ADDRESS` (R180). -/
def setAddress (value : BitVec 16) (s : State) : Res Unit :=
  ack { s with pendingAddress := addressOf value, addressPending := true }

/-- `SET_CONFIGURATION` (R181). -/
def setConfiguration (value : BitVec 16) (s : State) : Res Unit :=
  (activateConfiguration (configurationOf value) s).bind ackOrStall

/-- `SET_INTERFACE` (R182). -/
def setInterface (index value : BitVec 16) (s : State) : Res Unit :=
  (setAlternateSetting index value s).bind fun r1 s =>
    if r1 then (invokeCallback index value s).bind ackOrStall else stall s

/-- One endpoint of `EP_CLEAR` (R184). -/
def clearEndpoint (n : Fin 16) (d : Dir) (s : State) : Res Unit :=
  if (s.ep n d).enabled = false then .ok () s
  else
    let s := (s.setToggle n d .data0).disarm n d
    match d with
    | .OUT =>
      if n = s.cfg.val.epStreamOut then (startTransfer n .OUT [] (s.ep n .OUT).maxPacketSize s).ignore else .ok () s
    | .IN => if n = s.cfg.val.epFbIn then fbStep s else .ok () s

/-- The loop of `EP_CLEAR` (R184), over endpoint addresses in ascending order. -/
def clearEndpoints : List (Fin 16 × Dir) → State → Res Unit
  | [], s => .ok () s
  | e :: r, s => (clearEndpoint e.1 e.2 s).bind fun _ s => clearEndpoints r s

/-- The reference effect of `EP_CLEAR` (R184). -/
def clearReference (s : State) : Res Unit := (clearEndpoints nonControlEndpoints s).bind fun _ s => ack s

/-- One action of another effect (93 U8). -/
def clearAction (a : ClearAction) (s : State) : Res Unit :=
  match a with
  | .setToggle n d p => .ok () (s.setToggle n d p)
  | .disarm n d => .ok () (s.disarm n d)
  | .armOut n length => (startTransfer n .OUT [] length s).ignore
  | .armIn n buffer => (startTransfer n .IN buffer buffer.length s).ignore
  | .feedback => fbStep s

/-- The actions in order. -/
def clearActions : List ClearAction → State → Res Unit
  | [], s => .ok () s
  | a :: r, s => (clearAction a s).bind fun _ s => clearActions r s

/-- `EP_CLEAR` (R184): the effect the configuration gives it, a function of the state of the device (93 U8, R60, log
entry 19). -/
def epClear (s : State) : Res Unit :=
  match s.cfg.val.clearEffect with
  | .reference => clearReference s
  | .custom k =>
    match Config.clearPlan k s.device with
    | none => stall s
    | some l => (clearActions l s).bind fun _ s => ack s

/-! ## Dispatch -/

/-- Standard, Device, IN (R172). -/
def dispatchDeviceIn (p : SetupPacket) (s : State) : Res Unit :=
  if p.request = Code.getStatus then getStatus p.length s
  else if p.request = Code.getDescriptor then
    if p.valueHi = Code.descDevice then getDescriptorDevice p.length s
    else if p.valueHi = Code.descConfiguration then getDescriptorConfiguration p.length s
    else if p.valueHi = Code.descString then getDescriptorString p.length s
    else if p.valueHi = Code.descQualifier then stall s
    else stall s
  else stall s

/-- Standard, Device, OUT (R172). -/
def dispatchDeviceOut (p : SetupPacket) (s : State) : Res Unit :=
  if p.request = Code.setAddress then setAddress p.value s
  else if p.request = Code.setConfiguration then setConfiguration p.value s
  else stall s

/-- `Dispatch(p)` (R172), in the rule's own order and over its rules, not through the decoder of R133. -/
def dispatch (p : SetupPacket) (s : State) : Res Unit :=
  if p.type = Code.typeStandard ∧ p.rcpt = Code.rcptDevice ∧ p.dirIn = true then dispatchDeviceIn p s
  else if p.type = Code.typeStandard ∧ p.rcpt = Code.rcptDevice ∧ p.dirIn = false then dispatchDeviceOut p s
  else if p.type = Code.typeStandard ∧ p.rcpt = Code.rcptInterface ∧ p.dirIn = false then
    if p.request = Code.setInterface then setInterface p.index p.value s else stall s
  else if (p.type = Code.typeStandard ∨ p.type = Code.typeVendor) ∧ p.rcpt = Code.rcptEndpoint ∧ p.dirIn = false
      ∧ p.request = s.cfg.val.reqClear ∧ p.index = s.cfg.val.clearEpIndex then epClear s
  else if (p.type = Code.typeClass ∨ p.type = Code.typeVendor) ∧ p.rcpt = Code.rcptInterface then routeClass p s
  else stall s

/-- `EV_SETUP` (R170). -/
def evSetup (p : SetupPacket) (s : State) : Res Unit := dispatch p (acceptSetup p s)

/-! ## Meanings -/

/-- activateConfiguration (43 R284). -/
def execActivateConfiguration (n : Byte) (s : State) : Outcome := live s ((activateConfiguration n s).latch .bool)

/-- GET_STATUS (R174). -/
def execGetStatus (_value _index length : BitVec 16) (s : State) : Outcome := live s (getStatus length s)

/-- GET_DESCRIPTOR.DEVICE (R175). -/
def execGetDescriptorDevice (_descIndex : Byte) (_index length : BitVec 16) (s : State) : Outcome :=
  live s (getDescriptorDevice length s)

/-- GET_DESCRIPTOR.CONFIGURATION (R176). -/
def execGetDescriptorConfiguration (_descIndex : Byte) (_index length : BitVec 16) (s : State) : Outcome :=
  live s (getDescriptorConfiguration length s)

/-- GET_DESCRIPTOR.STRING (R177). -/
def execGetDescriptorString (_descIndex : Byte) (_index length : BitVec 16) (s : State) : Outcome :=
  live s (getDescriptorString length s)

/-- GET_DESCRIPTOR.QUALIFIER (R178): a stall, no data stage. -/
def execGetDescriptorQualifier (_descIndex : Byte) (_index _length : BitVec 16) (s : State) : Outcome :=
  live s (stall s)

/-- GET_DESCRIPTOR.OTHER (R179). -/
def execGetDescriptorOther (_descType _descIndex : Byte) (_index _length : BitVec 16) (s : State) : Outcome :=
  live s (stall s)

/-- SET_ADDRESS (R180). -/
def execSetAddress (value _index _length : BitVec 16) (s : State) : Outcome := live s (setAddress value s)

/-- SET_CONFIGURATION (R181). -/
def execSetConfiguration (value _index _length : BitVec 16) (s : State) : Outcome :=
  live s (setConfiguration value s)

/-- SET_INTERFACE (R182). -/
def execSetInterface (value index _length : BitVec 16) (s : State) : Outcome := live s (setInterface index value s)

/-- EP_CLEAR (R184). -/
def execEpClear (_vendor : Bool) (_value _length : BitVec 16) (s : State) : Outcome := live s (epClear s)

/-- UNHANDLED (R186). -/
def execUnhandled (_p : SetupPacket) (s : State) : Outcome := live s (stall s)

/-- Dispatch (R172). -/
def execDispatch (p : SetupPacket) (s : State) : Outcome := live s (dispatch p s)

/-- EV_SETUP (R170). -/
def execEvSetup (p : SetupPacket) (s : State) : Outcome := live s (evSetup p s)

end Sys2Proof.Machine
end

