-- ==== Sys2Proof/Machine/Queue.lean ====
section
/-! DEFINITION. Event queue, main loop and interrupt context (spec/48_event_queue.md), and reset
(spec/70_reset_and_hazards.md R500). -/

namespace Sys2Proof.Machine

/-- The append of `Push(e)`, or the overflow (R420). -/
def enqueue (e : UsbEvent) (s : State) : Res Unit :=
  if s.evq.length < s.cfg.val.qCap then .ok () { s with evq := s.evq ++ [e] } else fatalHalt .queueOverflow s

/-- The notice of an endpoint is raised: of an OUT endpoint, the hardware stores no more bytes until it is armed again
(10 R66, 20 R81, log entry 9). -/
def raiseNotice (n : Fin 16) (d : Dir) (s : State) : State :=
  match d, (s.ep n d).armed with
  | .OUT, some a => s.setEp n .OUT { s.ep n .OUT with armed := some { a with noticed := true } }
  | _, _ => s

/-- `Push(e)` (R420). A notice that breaks the hardware contract has no meaning (93 U13, log entry 9). -/
def push (e : UsbEvent) (s : State) : Res Unit :=
  match e with
  | .bufferDone n d len =>
    if completionAllowed s n d len then (enqueue e s).bind fun _ s => .ok () (raiseNotice n d s)
    else .refused (.hardwareContract n d)
  | .setupPacket _ => enqueue e s
  | .busReset => enqueue e s

/-- `Pop()` (R422). -/
def pop (s : State) : Option UsbEvent × State := (s.evq.head?, { s with evq := s.evq.tail })

/-- `BufferDone{n, d, len}` (R426). A completion with no handler only clears `armed` (R426, log entry 15). -/
def bufferDone (n : Fin 16) (d : Dir) (len : Nat) (s : State) : Res Unit :=
  if (s.ep n d).enabled = false then .ok () s
  else
    let s := s.disarm n d
    if n = 0 then onEp0Done d len s
    else if n = s.cfg.val.epStreamOut ∧ d = .OUT then onStreamOutDone len s
    else if n = s.cfg.val.epFbIn ∧ d = .IN then fbStep s
    else .ok () s

/-- The USB fields `BusReset` writes itself (R430). -/
def resetUsb (s : State) : State :=
  let s := emit (.hwSetAddress 0) { s with deviceAddress := 0 }
  let s := { s with
    pendingAddress := 0, addressPending := false, pendingOut := none, ep0Stalled := false, ctrlPhase := .idle }
  let s := (s.disarm 0 .IN).setToggle 0 .IN .data0
  (s.disarm 0 .OUT).setToggle 0 .OUT .data0

/-- `BusReset` (R430). -/
def busReset (s : State) : Res Unit := (activateConfiguration 0 (resetUsb s)).ignore

/-- `Handle(e)` (R425). -/
def handle (e : UsbEvent) (s : State) : Res Unit :=
  match e with
  | .setupPacket p => evSetup p s
  | .bufferDone n d len => bufferDone n d len s
  | .busReset => busReset s

/-- What a raised exception ends in the main loop (R424): a stall ends its event only, a fatal fault the iteration. -/
def afterEvent (r : Res Unit) (k : State → Res Unit) : Res Unit :=
  match r with
  | .ok _ s => if s.fatal = none then k s else .ended s
  | .ended s => if s.fatal = none then k s else .ended s
  | .fault f => .fault f
  | .refused e => .refused e

/-- The tick that ends an iteration; the next iteration may take its events again (R424). -/
def endIteration (s : State) : Res Unit := playbackTick { s with eventsLeft := s.cfg.val.maxEventsPerIter }

/-- The loop of `Iterate()` with `k` events still allowed, then the tick (R424). -/
def drain : Nat → State → Res Unit
  | 0, s => endIteration s
  | k + 1, s =>
    match pop s with
    | (none, s) => endIteration s
    | (some e, s) => afterEvent (handle e { s with eventsLeft := k }) (drain k)

/-- `Iterate()` (R424), whole. DESIGN CHOICE where micro-steps of the main loop have already begun an iteration (R424
knows whole ones only): the row begins another, with `MAX_EVENTS_PER_ITER` events of its own, and the begun one never
has its tick (log entry 8). -/
def iterate (s : State) : Res Unit := drain s.cfg.val.maxEventsPerIter s

/-- The power-on or external reset (70 R500). Parameters are the same after; the stimuli still to come and the
counter of free values are the model's own and go on (log entries 3 and 6). -/
def powerOnReset (s : State) : State :=
  { State.resetOf s.cfg with schedule := s.schedule, freeCount := s.freeCount }

/-! ## Meanings -/

/-- EV_BUFFER_DONE (R426). -/
def execEvBufferDone (n : Fin 16) (d : Dir) (length : Nat) (s : State) : Outcome := live s (bufferDone n d length s)

/-- EV_BUS_RESET (R430). -/
def execEvBusReset (s : State) : Outcome := live s (busReset s)

/-- BUFFER_READY (R432). -/
def execBufferReady (s : State) : Outcome := live s (.ok () { s with bufferReady := true })

/-- PUSH (R420). -/
def execPush (e : UsbEvent) (s : State) : Outcome := live s (push e s)

/-- ITERATE (R424). -/
def execIterate (s : State) : Outcome := live s (iterate s)

/-- RESET_PIN (70 R500): the only operation a halted machine takes (60 R456). -/
def execResetPin (s : State) : Outcome := .next (powerOnReset s)

/-- Pop (R422). -/
def execPop (s : State) : Outcome := live s ((Res.ok (pop s).1 (pop s).2).latch .event)

/-- Handle (R425). -/
def execHandle (e : UsbEvent) (s : State) : Outcome := live s (handle e s)

end Sys2Proof.Machine
end

