-- ==== Sys2Proof/Machine/Dispatch.lean ====
section
/-! DEFINITION. The meaning of every operation, one arm per constructor. -/

namespace Sys2Proof.Machine

def exec (i : Instr) (s : State) : Host.Outcome State Fault Refusal :=
  match i with
  | .getStatus value index length => Sys2Proof.Machine.execGetStatus value index length s
  | .getDescriptorDevice descIndex index length => Sys2Proof.Machine.execGetDescriptorDevice descIndex index length s
  | .getDescriptorConfiguration descIndex index length => Sys2Proof.Machine.execGetDescriptorConfiguration descIndex index length s
  | .getDescriptorString descIndex index length => Sys2Proof.Machine.execGetDescriptorString descIndex index length s
  | .getDescriptorQualifier descIndex index length => Sys2Proof.Machine.execGetDescriptorQualifier descIndex index length s
  | .getDescriptorOther descType descIndex index length => Sys2Proof.Machine.execGetDescriptorOther descType descIndex index length s
  | .setAddress value index length => Sys2Proof.Machine.execSetAddress value index length s
  | .setConfiguration value index length => Sys2Proof.Machine.execSetConfiguration value index length s
  | .setInterface value index length => Sys2Proof.Machine.execSetInterface value index length s
  | .epClear vendor value length => Sys2Proof.Machine.execEpClear vendor value length s
  | .classIn request value index length => Sys2Proof.Machine.execClassIn request value index length s
  | .classInVendor request value index length => Sys2Proof.Machine.execClassInVendor request value index length s
  | .classOut0 request value index => Sys2Proof.Machine.execClassOut0 request value index s
  | .classOut0Vendor request value index => Sys2Proof.Machine.execClassOut0Vendor request value index s
  | .classOut request value index length => Sys2Proof.Machine.execClassOut request value index length s
  | .classOutVendor request value index length => Sys2Proof.Machine.execClassOutVendor request value index length s
  | .classOutOversize vendor request value index length => Sys2Proof.Machine.execClassOutOversize vendor request value index length s
  | .unhandled p => Sys2Proof.Machine.execUnhandled p s
  | .getCurVolume ch length => Sys2Proof.Machine.execGetCurVolume ch length s
  | .getRangeVolume ch length => Sys2Proof.Machine.execGetRangeVolume ch length s
  | .getCurMute ch length => Sys2Proof.Machine.execGetCurMute ch length s
  | .getRangeMute ch length => Sys2Proof.Machine.execGetRangeMute ch length s
  | .getCurFreq chByte length => Sys2Proof.Machine.execGetCurFreq chByte length s
  | .getRangeFreq chByte length => Sys2Proof.Machine.execGetRangeFreq chByte length s
  | .setCurVolume ch stage => Sys2Proof.Machine.execSetCurVolume ch stage s
  | .setCurMute ch stage => Sys2Proof.Machine.execSetCurMute ch stage s
  | .setCurFreq chByte stage => Sys2Proof.Machine.execSetCurFreq chByte stage s
  | .acUnhandledIn request value entity length => Sys2Proof.Machine.execAcUnhandledIn request value entity length s
  | .acUnhandledOut request value entity stage => Sys2Proof.Machine.execAcUnhandledOut request value entity stage s
  | .evSetup p => Sys2Proof.Machine.execEvSetup p s
  | .evBufferDone endpoint direction length => Sys2Proof.Machine.execEvBufferDone endpoint direction length s
  | .evBusReset => Sys2Proof.Machine.execEvBusReset s
  | .ep0InDoneData length => Sys2Proof.Machine.execEp0InDoneData length s
  | .ep0InDoneStatus length => Sys2Proof.Machine.execEp0InDoneStatus length s
  | .ep0OutDoneData length => Sys2Proof.Machine.execEp0OutDoneData length s
  | .ep0Done direction length => Sys2Proof.Machine.execEp0Done direction length s
  | .streamOutDone length => Sys2Proof.Machine.execStreamOutDone length s
  | .feedbackInDone length => Sys2Proof.Machine.execFeedbackInDone length s
  | .bufferReady => Sys2Proof.Machine.execBufferReady s
  | .push e => Sys2Proof.Machine.execPush e s
  | .iterate => Sys2Proof.Machine.execIterate s
  | .tick => Sys2Proof.Machine.execTick s
  | .resetPin => Sys2Proof.Machine.execResetPin s
  | .dispatch p => Sys2Proof.Machine.execDispatch p s
  | .ctrlInStart buf len => Sys2Proof.Machine.execCtrlInStart buf len s
  | .sendNextChunk => Sys2Proof.Machine.execSendNextChunk s
  | .ack => Sys2Proof.Machine.execAck s
  | .raiseStall => Sys2Proof.Machine.execRaiseStall s
  | .raiseFatal c => Sys2Proof.Machine.execRaiseFatal c s
  | .routeClass p => Sys2Proof.Machine.execRouteClass p s
  | .invokeOutHandler q payload => Sys2Proof.Machine.execInvokeOutHandler q payload s
  | .pop => Sys2Proof.Machine.execPop s
  | .handle e => Sys2Proof.Machine.execHandle e s
  | .readAndClearBufferReady => Sys2Proof.Machine.execReadAndClearBufferReady s
  | .activateConfiguration n => Sys2Proof.Machine.execActivateConfiguration n s
  | .computeLayout => Sys2Proof.Machine.execComputeLayout s
  | .enableEndpoint e => Sys2Proof.Machine.execEnableEndpoint e s
  | .disableEndpoint n d => Sys2Proof.Machine.execDisableEndpoint n d s
  | .setAlternateSetting iface a => Sys2Proof.Machine.execSetAlternateSetting iface a s
  | .startTransfer n d buffer length => Sys2Proof.Machine.execStartTransfer n d buffer length s
  | .ringWrite data n => Sys2Proof.Machine.execRingWrite data n s
  | .ringRead n => Sys2Proof.Machine.execRingRead n s
  | .ringFillRatio => Sys2Proof.Machine.execRingFillRatio s
  | .ringResize newSize => Sys2Proof.Machine.execRingResize newSize s
  | .streamStart f => Sys2Proof.Machine.execStreamStart f s
  | .streamStop => Sys2Proof.Machine.execStreamStop s
  | .tickStopped => Sys2Proof.Machine.execTickStopped s
  | .tickBuffering => Sys2Proof.Machine.execTickBuffering s
  | .tickPlaying => Sys2Proof.Machine.execTickPlaying s
  | .tickStalled => Sys2Proof.Machine.execTickStalled s
  | .onSamplesReceived samples => Sys2Proof.Machine.execOnSamplesReceived samples s
  | .setIfCallbackAsIf a => Sys2Proof.Machine.execSetIfCallbackAsIf a s
  | .unpack f payload => Sys2Proof.Machine.execUnpack f payload s
  | .unpack16 payload => Sys2Proof.Machine.execUnpack16 payload s
  | .unpack24 payload => Sys2Proof.Machine.execUnpack24 payload s
  | .unpack32 payload => Sys2Proof.Machine.execUnpack32 payload s
  | .lookup volume => Sys2Proof.Machine.execLookup volume s
  | .gains => Sys2Proof.Machine.execGains s
  | .scale sample gC gM => Sys2Proof.Machine.execScale sample gC gM s
  | .mix f b => Sys2Proof.Machine.execMix f b s
  | .mixFrame16 x gL gR gM => Sys2Proof.Machine.execMixFrame16 x gL gR gM s
  | .mixFrame24 x gL gR gM => Sys2Proof.Machine.execMixFrame24 x gL gR gM s
  | .mixFrame32 x gL gR gM => Sys2Proof.Machine.execMixFrame32 x gL gR gM s
  | .fbStep => Sys2Proof.Machine.execFbStep s

end Sys2Proof.Machine
end

