-- ==== Sys2Proof/Machine/Fetch.lean ====
section
/-! DEFINITION. What the machine does next: the next stimulus (spec/30_encoding.md R148), the next event of the main
loop and the operation it selects (spec/48_event_queue.md R424, R425). Log entries 3 and 4. -/

namespace Sys2Proof.Machine

/-- The preparatory writes of an event before its operation: R170's for a setup packet, none otherwise. -/
def prepare (e : UsbEvent) (s : State) : State :=
  match e with
  | .setupPacket p => acceptSetup p s
  | .bufferDone _ _ _ => s
  | .busReset => s

/-- The tick that ends an iteration; the next iteration may take its events again (R424). -/
def fetchTick (s : State) : Res Instr := .ok .tick { s with eventsLeft := s.cfg.val.maxEventsPerIter }

/-- The operation of the event just popped. -/
def fetchEvent (e : UsbEvent) (s : State) : Res Instr :=
  match decodeEvent s.cfg.val e with
  | .ok i => .ok i (prepare e s)
  | .error (.notEightBytes n) => .refused (.notAPacket n)

/-- One micro-step of the main loop (R424): the next event while the iteration may take one, else the tick. Halted,
nothing (60 R456). -/
def fetchMainLoop (s : State) : Res Instr :=
  if s.fatal = none then
    match s.eventsLeft, pop s with
    | k + 1, (some e, s) => fetchEvent e { s with eventsLeft := k }
    | _, _ => fetchTick s
  else .ended s

/-- What the hardware has stored of an OUT transfer, counted (10 R66, log entry 9). -/
def countStored (n : Fin 16) (k : Nat) (s : State) : State :=
  match (s.ep n .OUT).armed with
  | some a => s.setEp n .OUT { s.ep n .OUT with armed := some { a with stored := max a.stored k } }
  | none => s

/-- The hardware stores the bytes of an OUT transfer (10 R66, 20 R101). Halted, the model leaves the state (log
entry 10). -/
def storeOut (n : Fin 16) (b : Bytes) (s : State) : Res Unit :=
  if s.fatal = none then
    if storeAllowed s n b then
      (if n = 0 then memWrite .ep0out 0 b s else memWrite .epbuf (s.ep n .OUT).bufferAddress b s).bind
        fun _ s => .ok () (countStored n b.length s)
    else .refused (.hardwareContract n .OUT)
  else .ok () s

/-- The environment gives the audio driver a period for the next `DrvConfigure` (10 R63, log entry 24). -/
def setNextPeriod (frames : Nat) (s : State) : Res Unit :=
  if s.fatal = none then
    if frames = 0 then .refused .driverContract else .ok () { s with nextPeriod := frames }
  else .ok () s

/-- What runs next, and the state it runs in; `ended` where the stimulus runs no operation. -/
def fetch (s : State) : Res Instr :=
  match s.schedule with
  | [] => fetchMainLoop s
  | .mainLoop :: r => fetchMainLoop { s with schedule := r }
  | .op i :: r => .ok i { s with schedule := r }
  | .outData n b :: r => (storeOut n b { s with schedule := r }).bind fun _ s => .ended s
  | .driverPeriod k :: r => (setNextPeriod k { s with schedule := r }).bind fun _ s => .ended s

end Sys2Proof.Machine
end

