-- ==== Sys2Proof/Machine/Step.lean ====
section
/-! DEFINITION. One step of the machine, and the placing of a setup word where the next step fetches it. -/

namespace Sys2Proof.Machine

/-- One step: fetch, then run what was fetched. -/
def step (s : State) : Host.Outcome State Fault Refusal :=
  match fetch s with
  | .ok i s' => exec i s'
  | .ended s' => .next s'
  | .fault f => .fault f
  | .refused r => .refused r

/-- `s` with the setup word `w` at the head of the event queue and the main loop about to take it (log entry 3). -/
def State.withFetchWord (s : State) (nbits w : Nat) : State :=
  { s with
    evq := .setupPacket (SetupPacket.ofBytes (wordBytes (w % 2 ^ nbits))) :: s.evq.tail
    schedule := .mainLoop :: s.schedule
    eventsLeft := max 1 s.eventsLeft
    fatal := none }

end Sys2Proof.Machine
end

