-- ==== Sys2Proof/Safety.lean ====
section
/-! DEFINITION. The terms the claims are stated in: the invariants of the machine's state (spec/10_state.md,
spec/20_memory.md, spec/43_endpoint_manager.md, spec/44_ring_buffer.md), the stimuli that come over the wire
(spec/30_encoding.md R148), the frames, and the states the commonest rules leave. -/

namespace Sys2Proof.Machine

/-! ## Invariants that every step keeps -/

/-- Every address space is in canonical form. -/
def MemoriesCanonical (s : State) : Prop := ∀ sp : Space, (s.mem sp).wf

/-- No address space but HWBUF lists an address it does not have (20 R81 to R83, R95). -/
structure MemoriesInBounds (s : State) : Prop where
  epbuf  : ∀ c ∈ s.epbuf, c.1 < s.cfg.val.sharedCapacity
  ep0in  : ∀ c ∈ s.ep0in, c.1 < 64
  ep0out : ∀ c ∈ s.ep0out, c.1 < 64
  ring   : ∀ c ∈ s.rb.storage, c.1 < s.rb.capacity

/-- The ring buffer's invariants (44 R312, 10 R35). -/
structure RingOk (rb : RingBuffer) : Prop where
  size_pos : 1 ≤ rb.size
  size_le  : rb.size ≤ rb.capacity
  head_lt  : rb.head < rb.size
  tail_lt  : rb.tail < rb.size
  full     : rb.fullFlag = true → rb.head = rb.tail

/-- The abstract content of the ring buffer: what `RING[(head + j) mod size]` reads as, `j < count` (44 R324). -/
def ringContent (rb : RingBuffer) : List (Option Byte) :=
  (List.range (ringCount rb)).map fun j => rb.storage.read ((rb.head + j) % rb.size)

/-- Every byte the ring buffer counts has been written (44 R310: a read never returns bytes never written). -/
def RingFilled (rb : RingBuffer) : Prop := ∀ x ∈ ringContent rb, x ≠ none

/-- The queue holds at most `Q_CAP` events (10 R31). -/
def QueueBounded (s : State) : Prop := s.evq.length ≤ s.cfg.val.qCap

/-- The sampling frequency is a supported one (10 R33). -/
def RateSupported (s : State) : Prop := s.sampleRate.toNat ∈ Const.supportedRates

/-- The two fill ratios are in [0, 1] (10 R37, R38). -/
structure FractionsOk (s : State) : Prop where
  steady_nonneg   : 0 ≤ s.steadyFill
  steady_le       : s.steadyFill ≤ 1
  filtered_nonneg : 0 ≤ s.filtered
  filtered_le     : s.filtered ≤ 1

/-- Endpoint buffers and layout offsets are 64-byte aligned (20 R90, 43 R280 (c)). -/
structure BuffersAligned (s : State) : Prop where
  buffers : ∀ n d, 64 ∣ (s.ep n d).bufferAddress
  layout  : ∀ x ∈ s.bufLayout, 64 ∣ x.2

/-- One stored alternate setting per interface slot (10 R27). -/
def AltSettingsSized (s : State) : Prop := s.altSetting.length = s.cfg.val.nIfSlots

/-- Outside `Stopped` a sample format has been selected (10 R34, 45 R336). -/
def FormatKnown (s : State) : Prop := s.pstate ≠ .stopped → s.format ≠ none

/-- The reply being sent is at least as long as the length to deliver (41 R210). -/
def ReplyLongEnough (s : State) : Prop := s.cts.totalLength ≤ s.cts.sourceBuffer.length

/-- While a class payload is awaited, its setup packet is held, for a slot that has a handler (10 R24, 42 R246). -/
def CaptureHeld (s : State) : Prop :=
  s.ctrlPhase = .dataOut → ∃ q, s.pendingOut = some q ∧ s.cfg.val.hasOutHandler q.slot = true

/-- The driver's period, and the one it will have once configured again, have at least one frame (10 R63, 70 R506). -/
def PeriodsPositive (s : State) : Prop := 1 ≤ s.periodFrames ∧ 1 ≤ s.nextPeriod

/-- All the invariants that every step keeps. -/
structure Inv (s : State) : Prop where
  canonical : MemoriesCanonical s
  bounds    : MemoriesInBounds s
  ring      : RingOk s.rb
  filled    : RingFilled s.rb
  queue     : QueueBounded s
  rate      : RateSupported s
  fractions : FractionsOk s
  aligned   : BuffersAligned s
  alts      : AltSettingsSized s
  format    : FormatKnown s
  reply     : ReplyLongEnough s

/-! ## What comes over the wire -/

/-- The stimuli of R148 and the external reset: what the host, the hardware and the two contexts can do. A procedure
called by itself (program P3) is none of them. -/
def wireLevel : Stimulus → Bool
  | .mainLoop => true
  | .outData _ _ => true
  | .driverPeriod _ => true
  | .op (.push _) => true
  | .op .bufferReady => true
  | .op .iterate => true
  | .op .tick => true
  | .op .resetPin => true
  | .op _ => false

/-- A completion notice breaks the hardware contract (10 R66, R67, 93 U13): its endpoint is enabled (at the
push: log entry 33) and, if it is endpoint 0, the phase (at the push: log entry 32) expects a completion of that direction (41 R217, R218), and
nothing is armed, or an IN notice reports another length than the armed one, or an OUT notice one above the armed length
or above what has been stored. -/
def BreaksContract (s : State) (n : Fin 16) (d : Dir) (len : Nat) : Prop :=
  (s.ep n d).enabled = true ∧
  (n = 0 → (d = .IN ∧ (s.ctrlPhase = .dataIn ∨ s.ctrlPhase = .statusIn)) ∨
    (d = .OUT ∧ (s.ctrlPhase = .dataOut ∨ s.ctrlPhase = .statusOut))) ∧
  ((s.ep n d).armed = none ∨
    ∃ a, (s.ep n d).armed = some a ∧
      ((d = .IN ∧ len ≠ a.length) ∨ (d = .OUT ∧ (a.length < len ∨ a.stored < len))))

/-- What the handling of a queued notice reads is there: a payload of endpoint 0, or a streaming packet, whose bytes have
been stored, the latter where the layout puts the endpoint's buffer, with a format selected (41 R215, 45 R352). -/
structure NoticeServable (s : State) (n : Fin 16) (d : Dir) (len : Nat) : Prop where
  payload : n = 0 → d = .OUT → len ≤ 64 ∧ s.ep0out.readN 0 len ≠ none
  packet  : n = s.cfg.val.epStreamOut → d = .OUT → s.format ≠ none ∧
    ∀ off, (layoutOf s.cfg.val []).1.lookup (epAddress n .OUT) = some off →
      off + len ≤ s.cfg.val.sharedCapacity ∧ s.epbuf.readN off len ≠ none

/-- Every stimulus still to come is one of the wire. -/
def WireSchedule (s : State) : Prop := ∀ x ∈ s.schedule, wireLevel x = true

/-- Endpoint 0 works in both directions (10 R50, 43 R284: it is never disabled). -/
structure Ep0Ready (s : State) : Prop where
  inEnabled  : s.epIn[0].enabled = true
  inSize     : s.epIn[0].maxPacketSize = Const.ep0MaxPacket
  outEnabled : s.epOut[0].enabled = true
  outSize    : s.epOut[0].maxPacketSize = Const.ep0MaxPacket

/-- An active configuration has its layout, which fits (43 R286). -/
def LayoutKnown (s : State) : Prop :=
  s.activeConfig ≠ 0 →
    s.bufLayout = (layoutOf s.cfg.val []).1 ∧ (layoutOf s.cfg.val []).2 ≤ s.cfg.val.sharedCapacity

/-- The buffer of an enabled endpoint lies inside EPBUF (43 R280 (b), 20 R95 (b)). -/
def BuffersFit (s : State) : Prop :=
  ∀ n d, n ≠ 0 → (s.ep n d).enabled = true →
    (s.ep n d).bufferAddress + (s.ep n d).maxPacketSize ≤ s.cfg.val.sharedCapacity

/-- An enabled endpoint above 0 belongs to an active configuration, has its buffer where the layout puts it, and a max
packet size that some item of the descriptor list gives it (43 R286, R288). -/
def BuffersPlaced (s : State) : Prop :=
  ∀ n d, n ≠ 0 → (s.ep n d).enabled = true →
    s.activeConfig ≠ 0 ∧ layoutAt s (epAddress n d) = some (s.ep n d).bufferAddress ∧
    ∃ e ∈ (itemsFrom (0, 0) s.cfg.val.configItems).map (·.2),
      e.number = n ∧ e.direction = d ∧ e.maxPacketSize = (s.ep n d).maxPacketSize

/-- The buffers of enabled endpoints above 0, each its max packet size rounded up to 64 bytes, lie inside EPBUF, and
those of two distinct ones do not overlap (43 R280 (b)). -/
structure BuffersApart (s : State) : Prop where
  inside : ∀ n d, n ≠ 0 → (s.ep n d).enabled = true →
    (s.ep n d).bufferAddress + Bits.roundup64 (s.ep n d).maxPacketSize ≤ s.cfg.val.sharedCapacity
  apart  : ∀ n d m e, n ≠ 0 → m ≠ 0 → (n, d) ≠ (m, e) → (s.ep n d).enabled = true → (s.ep m e).enabled = true →
    (s.ep n d).bufferAddress + Bits.roundup64 (s.ep n d).maxPacketSize ≤ (s.ep m e).bufferAddress ∨
    (s.ep m e).bufferAddress + Bits.roundup64 (s.ep m e).maxPacketSize ≤ (s.ep n d).bufferAddress

/-- What the control engine needs to answer any request. -/
structure UsbReady (s : State) : Prop where
  ep0    : Ep0Ready s
  layout : LayoutKnown s
  fit    : BuffersFit s

/-- An `Ep` item of endpoint `n`, direction `d`, belongs to the active alternate setting of some interface (43 R280). -/
def InActiveSetting (s : State) (n : Fin 16) (d : Dir) : Prop :=
  ∃ i : Byte, ∃ e ∈ endpointsOf s.cfg.val i.toNat (altSettingOf s i.toNat).toNat, e.number = n ∧ e.direction = d

/-- 43 R280 (a): endpoint `n ≥ 1` is enabled exactly when a configuration is active and some active alternate
setting has it. -/
def EndpointContract (s : State) : Prop :=
  ∀ n d, n ≠ 0 → ((s.ep n d).enabled = true ↔ s.activeConfig ≠ 0 ∧ InActiveSetting s n d)

/-- No external slot registers a set-interface callback (the default of `EXT_HANDLERS`, 10 R28). -/
def NoExternalCallback (c : Config) : Prop := ∀ x ∈ c.extHandlers, x.hasSetIf = false

/-! ## Frames -/

/-- The audio side of the state is the same. -/
structure SameAudio (s t : State) : Prop where
  chan          : t.chan = s.chan
  sampleRate    : t.sampleRate = s.sampleRate
  format        : t.format = s.format
  rb            : t.rb = s.rb
  pstate        : t.pstate = s.pstate
  steadyFill    : t.steadyFill = s.steadyFill
  filtered      : t.filtered = s.filtered
  bufferReady   : t.bufferReady = s.bufferReady
  outputRunning : t.outputRunning = s.outputRunning
  ledFast       : t.ledFast = s.ledFast
  periodFrames  : t.periodFrames = s.periodFrames
  hwbuf         : t.hwbuf = s.hwbuf

/-- The control engine's state is the same, but for the endpoint table, the layout and the alternate settings. -/
structure SameControl (s t : State) : Prop where
  setup          : t.setup = s.setup
  cts            : t.cts = s.cts
  pendingAddress : t.pendingAddress = s.pendingAddress
  addressPending : t.addressPending = s.addressPending
  deviceAddress  : t.deviceAddress = s.deviceAddress
  ep0Stalled     : t.ep0Stalled = s.ep0Stalled
  ep0in          : t.ep0in = s.ep0in
  ep0out         : t.ep0out = s.ep0out

/-- The queue, the halt and the model's own fields are the same, but for the trace and `ret`. -/
structure SameMachine (s t : State) : Prop where
  cfg        : t.cfg = s.cfg
  fatal      : t.fatal = s.fatal
  evq        : t.evq = s.evq
  schedule   : t.schedule = s.schedule
  nextPeriod : t.nextPeriod = s.nextPeriod
  eventsLeft : t.eventsLeft = s.eventsLeft
  freeCount  : t.freeCount = s.freeCount

/-- What address `a` reads as once `b` has been stored from address `base` on in a space that read as `old` there. -/
def stored (base : Nat) (b : Bytes) (old : Nat → Option Byte) (a : Nat) : Option Byte :=
  if base ≤ a ∧ a < base + b.length then b[a - base]? else old a

/-! ## States the rules leave -/

/-- After `raise Stall` (41 R216): every other field as it was. -/
def stalled (s : State) : State :=
  { s with ep0Stalled := true, pendingOut := none, ctrlPhase := .idle, trace := s.trace ++ [.hwStallEp0] }

/-- The record of an armed endpoint after `startTransfer` (43 R292). -/
def EpRecord.afterArm (r : EpRecord) (length : Nat) : EpRecord :=
  { r with armed := some (.fresh length r.nextToggleBit), nextToggleBit := flipPid r.nextToggleBit }

/-- After `Ack()` (41 R214): a zero-length IN armed with DATA1. -/
def acked (s : State) : State :=
  { s with
    epIn := s.epIn.set 0 { s.epIn[0] with armed := some (.fresh 0 .data1), nextToggleBit := .data0 }
    ctrlPhase := .statusIn
    trace := s.trace ++ [.hwArm 0 .IN 0 .data1] }

/-- After `CtrlInStart(buf, len)` (41 R210, R211) but for EP0IN: the first chunk armed. -/
def dataStage (buf : Bytes) (len : Nat) (s : State) : State :=
  { s with
    cts := ⟨buf, len, 0, min 64 len⟩
    ctrlPhase := .dataIn
    epIn := s.epIn.set 0 (s.epIn[0].afterArm (min 64 len))
    trace := s.trace ++ [.hwArm 0 .IN (min 64 len) s.epIn[0].nextToggleBit] }

/-- `t` is the state after `CtrlInStart(buf, len)` from `s`: every field as `dataStage` says, and EP0IN holding the
first chunk, its other bytes as they were. -/
def DataStageStarted (buf : Bytes) (len : Nat) (s t : State) : Prop :=
  t = { dataStage buf len s with ep0in := t.ep0in }
    ∧ ∀ a, t.ep0in.read a = stored 0 (buf.take (min 64 len)) s.ep0in.read a

/-- After the capture of a class OUT request (42 R246): one OUT packet of its length armed. -/
def payloadArmed (p : SetupPacket) (s : State) : State :=
  { s with
    pendingOut := some p
    epOut := s.epOut.set 0 (s.epOut[0].afterArm p.length.toNat)
    ctrlPhase := .dataOut
    trace := s.trace ++ [.hwArm 0 .OUT p.length.toNat s.epOut[0].nextToggleBit] }

/-- `t` is `s` with no active configuration (43 R284, its part before the layout): endpoints 1 to 15 disabled and
unarmed, endpoint 0 as it was, no layout, every alternate setting 0; everything else as it was but for `ctrlPhase`,
`pendingOut` and the trace, which the caller says. -/
structure Deactivated (s t : State) : Prop where
  others   : ∀ n d, n ≠ 0 → t.ep n d = { s.ep n d with enabled := false, armed := none }
  layout   : t.bufLayout = []
  alts     : t.altSetting = s.altSetting.map fun _ => 0
  config   : t.activeConfig = 0
  epbuf    : t.epbuf = s.epbuf
  audio    : SameAudio s t
  machine  : SameMachine s t

/-- The commands that disable what is enabled of endpoints 1 to 15, in ascending endpoint address (43 R282, R284). -/
def disableCommands (s : State) : List Cmd :=
  (nonControlEndpoints.filter fun e => (s.ep e.1 e.2).enabled).map fun e => .hwDisableEndpoint e.1 e.2

/-- The commands of one interface's activation (43 R284): its endpoints of alternate setting 0 enabled where the layout
puts them; for the streaming interface also the stop its callback makes (45 R350). -/
def activationCommands (c : Config) (i : Byte) : List Cmd :=
  ((endpointsOf c i.toNat 0).map fun e =>
    .hwEnableEndpoint e.number e.direction e.type (((layoutOf c []).1.lookup (addrOf e)).getD 0))
    ++ if i = c.asIf then [.drvStop] else []

/-- The interfaces of a list whose set-interface callback is external (10 R28). -/
def externalCallbacks (c : Config) (l : List Byte) : List Byte :=
  l.filter fun i => setIfCallback c (i.setWidth 16) = some .external

/-- What the IN handler of the slot a packet names answers, and the state it leaves (42 R244): `none` where there is
no handler, or where it answers `Unhandled`. -/
def inAnswer (p : SetupPacket) (s : State) : Option Bytes × State :=
  match inHandler s.cfg.val p.slot with
  | none => (none, s)
  | some .audioControl => (acIn p s, s)
  | some .external => (Config.extIn s.freeCount p.slot p, { s with freeCount := s.freeCount + 1 })

/-- What the OUT handler of a captured packet answers, and the state it leaves (42 R248). -/
def outAnswer (q : SetupPacket) (b : Bytes) (s : State) : Bool × State :=
  if q.slot = s.cfg.val.acIf then acOut q b s
  else (Config.extOut s.freeCount q.slot q b, { s with freeCount := s.freeCount + 1 })

/-- How the handling of a request ends after its handler answered (41 R215, 42 R245). -/
def answered (r : Bool × State) : State := if r.1 then acked r.2 else stalled r.2

/-- The state after the IN request `p` (42 R244): the reply started, or the stall. -/
def InAnswered (p : SetupPacket) (s t : State) : Prop :=
  match (inAnswer p s).1 with
  | none => t = stalled (inAnswer p s).2
  | some b => DataStageStarted b (min p.length.toNat b.length) (inAnswer p s).2 t

/-- The state after the OUT request `p` without payload (42 R245). -/
def Out0Answered (p : SetupPacket) (s t : State) : Prop :=
  (s.cfg.val.hasOutHandler p.slot = false → t = stalled s) ∧
  (p.slot = s.cfg.val.acIf → t = stalled s) ∧
  (s.cfg.val.hasOutHandler p.slot = true → p.slot ≠ s.cfg.val.acIf → t = answered (outAnswer p [] s))

/-- The state after the OUT request `p` with a payload (42 R246, R247). -/
def captured (p : SetupPacket) (s : State) : State :=
  if s.cfg.val.hasOutHandler p.slot then
    if 64 < p.length.toNat then { s with fatal := some .oversizeOut } else payloadArmed p s
  else stalled s

/-- The feedback filter's next value (47 R402). -/
def filterStep (s : State) : Rat :=
  if s.pstate = .playing then s.filtered + (s.steadyFill - s.filtered) / 100 else 1 / 2

/-- The rate the feedback step reports, in samples per millisecond (47 R402). -/
def reportedRate (s : State) : Rat :=
  (s.sampleRate.toNat : Rat) / 1000 * (if s.pstate = .playing then 1 - (filterStep s - 1 / 2) / 100 else 1)

/-- The bytes of the feedback value (30 R143, R144): `floor(rate × 65536) mod 2^32`, little-endian. -/
def feedbackBytes (s : State) : Bytes :=
  let v := (⌊reportedRate s * 65536⌋ % 2 ^ 32).toNat
  [BitVec.ofNat 8 v, BitVec.ofNat 8 (v / 2 ^ 8), BitVec.ofNat 8 (v / 2 ^ 16), BitVec.ofNat 8 (v / 2 ^ 24)]

/-- A volume the gain table covers (46 R379: "exactly for −24831 ≤ volume ≤ 255"). -/
def InTable (volume : BitVec 16) : Prop := -24831 ≤ volume.toInt ∧ volume.toInt ≤ 255

/-- The volumes one mixer call looks up are in the table: the master's always, a side's where it is not muted
(46 R381). -/
structure VolumesInTable (ch : Channels) : Prop where
  left   : ch.master.muted = false → ch.left.muted = false → InTable ch.left.volume
  right  : ch.master.muted = false → ch.right.muted = false → InTable ch.right.volume
  master : InTable ch.master.volume

/-- `Scale` written out over the integers (46 R383). -/
def scaled (x : Int) (gC gM : Nat) : Int := x * gC / 2 ^ 31 * gM / 2 ^ 31

end Sys2Proof.Machine
end

