-- ==== Sys2Proof/Certificates/Slice0/Obligations.lean ====
section
/-! DEFINITION. The statements for the provers, from the numbered rules of spec/. -/

open Sys2Proof Sys2Proof.Machine

/-! ## Encoding -/

/-- 30 R121, R130, R133 under TCFG: setup packets written out byte by byte from the request map, and the rows they
select; a byte string of another length is no setup packet (R138) and is refused by name. -/
def Obligations.DecodesSampleWords : Prop :=
  decode Config.tcfg.val [0x80, 0x00, 0x00, 0x00, 0x00, 0x00, 0x02, 0x00] = .ok (.getStatus 0 0 2) ∧
  decode Config.tcfg.val [0x80, 0x06, 0x02, 0x03, 0x09, 0x04, 0xFF, 0x00] = .ok (.getDescriptorString 2 0x0409 255) ∧
  decode Config.tcfg.val [0x00, 0x05, 0x05, 0x00, 0x00, 0x00, 0x00, 0x00] = .ok (.setAddress 5 0 0) ∧
  decode Config.tcfg.val [0x01, 0x0B, 0x01, 0x00, 0x01, 0x00, 0x00, 0x00] = .ok (.setInterface 1 1 0) ∧
  decode Config.tcfg.val [0x42, 0x01, 0x00, 0x00, 0x01, 0x00, 0x00, 0x00] = .ok (.epClear true 0 0) ∧
  decode Config.tcfg.val [0xA1, 0x01, 0x01, 0x02, 0x00, 0x02, 0x02, 0x00] = .ok (.getCurVolume .left 2) ∧
  decode Config.tcfg.val [0x21, 0x01, 0x00, 0x01, 0x00, 0x01, 0x04, 0x00] = .ok (.setCurFreq 0 (.setup 4)) ∧
  decode Config.tcfg.val [0x21, 0x01, 0x00, 0x02, 0x00, 0x02, 0x41, 0x00]
    = .ok (.classOutOversize false 1 0x0200 0x0200 65) ∧
  ∀ (c : Config) (b : Bytes), b.length ≠ 8 → decode c b = .error (.notEightBytes b.length)

/-- 30 R121 to R133: decoding the eight bytes of a well-formed setup-selected operation gives it back, every operand
at every value its encoding admits. -/
def Obligations.DecodeOfEncode : Prop :=
  ∀ (c : WfConfig) (i : Instr) (b : Bytes), i.wf c.val = true → encode c.val i = some b → decode c.val b = .ok i

/-- 30 R121, R133: every setup packet is the packet of the row it selects, whose operands are well-formed: no bit of
a packet is lost and the rows partition the packets. -/
def Obligations.EncodeOfDecode : Prop :=
  ∀ (c : WfConfig) (p : SetupPacket),
    encodePacket c.val (decodeSetup c.val p) = some p ∧ (decodeSetup c.val p).wf c.val = true

/-! ## The step -/

/-- 48 R424, R425: where the main loop moves and may take an event, the step runs the operation the oldest event
decodes to, on the state with the event popped; for a setup packet after R170's writes.
Rests on the spec's own decisions D5, D6, D50. -/
def Obligations.StepRunsDecodedEvent : Prop :=
  ∀ (s : State) (e : UsbEvent) (rest : List UsbEvent) (k : Nat) (i : Instr), s.fatal = none →
    (s.schedule = [] ∨ ∃ r, s.schedule = .mainLoop :: r) → s.evq = e :: rest → s.eventsLeft = k + 1 →
    decodeEvent s.cfg.val e = .ok i →
    step s = exec i (prepare e { s with schedule := s.schedule.tail, evq := rest, eventsLeft := k })

/-- 30 R148, 48 R424: a scheduled operation runs next; with no event to take the main loop runs the tick, after which
an iteration may take its events again; the bytes of an OUT transfer go to the endpoint's buffer between its arming and
its notice (10 R66, 20 R81) and nothing runs, outside that they have no meaning; the environment's period for the next
DrvConfigure is noted (10 R63), one of no frames has no meaning.
The schedule, `eventsLeft`, `armed.stored`, `armed.noticed` and `nextPeriod` and how a step reads them are the model's
choice (log entries 3, 4, 9, 24, 28). Rests on the spec's own decisions D50 (the tick) and D58 (the OUT store). -/
def Obligations.StepRunsScheduled : Prop :=
  (∀ (s : State) (i : Instr) (r : List Stimulus), s.schedule = .op i :: r →
    step s = exec i { s with schedule := r }) ∧
  (∀ s : State, s.fatal = none → (s.schedule = [] ∨ ∃ r, s.schedule = .mainLoop :: r) →
    (s.evq = [] ∨ s.eventsLeft = 0) →
    step s = exec .tick { s with schedule := s.schedule.tail, eventsLeft := s.cfg.val.maxEventsPerIter }) ∧
  (∀ (s : State) (n : Fin 16) (b : Bytes) (r : List Stimulus), s.fatal = none → s.schedule = .outData n b :: r →
    ((s.ep n .OUT).enabled = false ∨ (s.ep n .OUT).armed = none ∨
        (∃ a, (s.ep n .OUT).armed = some a ∧ (a.noticed = true ∨ a.length < b.length)) →
      step s = .refused (.hardwareContract n .OUT)) ∧
    (∀ a, (s.ep n .OUT).enabled = true → (s.ep n .OUT).armed = some a → a.noticed = false → b.length ≤ a.length →
      (if n = 0 then b.length ≤ 64 else (s.epOut[n]).bufferAddress + b.length ≤ s.cfg.val.sharedCapacity) →
      ∃ t, step s = .next t ∧ t = { s with schedule := r, epOut := t.epOut, ep0out := t.ep0out, epbuf := t.epbuf } ∧
        (∀ m e, t.ep m e = if m = n ∧ e = .OUT then
          { s.ep n .OUT with armed := some { a with stored := max a.stored b.length } } else s.ep m e) ∧
        (∀ x, t.ep0out.read x = if n = 0 then stored 0 b s.ep0out.read x else s.ep0out.read x) ∧
        (∀ x, t.epbuf.read x =
          if n = 0 then s.epbuf.read x else stored (s.epOut[n]).bufferAddress b s.epbuf.read x))) ∧
  (∀ (s : State) (k : Nat) (r : List Stimulus), s.fatal = none → s.schedule = .driverPeriod k :: r →
    step s = if k = 0 then .refused .driverContract else .next { s with schedule := r, nextPeriod := k })

/-- 40 R170, R172 and 30 R133: running the row a packet decodes to is `Dispatch` of the packet, and EV_SETUP is the
preparatory writes, then that. The decoder and the dispatch are written separately, from two rules of the spec.
Rests on the spec's own decisions D5, D6, D19. -/
def Obligations.DispatchAgreesWithDecoder : Prop :=
  ∀ (s : State) (p : SetupPacket), s.fatal = none →
    exec (decodeSetup s.cfg.val p) s = exec (.dispatch p) s ∧
    exec (.evSetup p) s = exec (decodeSetup s.cfg.val p) (acceptSetup p s)

/-- 48 R424: an iteration taken whole leaves the state its micro-steps reach, one event or the tick each, at most
`MAX_EVENTS_PER_ITER` events and one tick.
Rests on the spec's own decision D50. -/
def Obligations.IterateIsMicroSteps : Prop :=
  ∀ s t : State, s.fatal = none → s.schedule = [] → s.eventsLeft = s.cfg.val.maxEventsPerIter →
    exec .iterate s = .next t → ∃ k ≤ s.cfg.val.maxEventsPerIter + 1, Sys2Proof.core.run k s = .next t

/-! ## Reset -/

/-- 10 R50: the values the spec gives for reset, for every configuration record.
Rests on the spec's own decision D51. -/
def Obligations.ResetValues : Prop :=
  ∀ c : WfConfig, let s := State.resetOf c
    s.ctrlPhase = .idle ∧ s.cts = ⟨[], 0, 0, 0⟩ ∧ s.pendingOut = none ∧ s.pendingAddress = 0 ∧
    s.addressPending = false ∧ s.deviceAddress = 0 ∧ s.activeConfig = 0 ∧
    (∀ i < c.val.nIfSlots, s.altSetting[i]? = some 0) ∧ s.ep0Stalled = false ∧ s.fatal = none ∧ s.evq = [] ∧
    (∀ d, (s.ep 0 d).enabled = true ∧ (s.ep 0 d).type = .control ∧ (s.ep 0 d).maxPacketSize = 64 ∧
      (s.ep 0 d).nextToggleBit = .data0 ∧ (s.ep 0 d).armed = none) ∧
    (∀ n d, n ≠ 0 → (s.ep n d).enabled = false ∧ (s.ep n d).armed = none ∧ (s.ep n d).nextToggleBit = .data0) ∧
    s.bufLayout = [] ∧ s.chan = c.val.initChan ∧ s.sampleRate = c.val.initRate ∧ s.format = none ∧
    s.rb.size = c.val.initRingSize ∧ s.rb.capacity = c.val.initRingSize ∧ s.rb.head = 0 ∧ s.rb.tail = 0 ∧
    s.rb.fullFlag = false ∧ s.pstate = .stopped ∧ s.steadyFill = 0 ∧ s.filtered = 1 / 2 ∧ s.bufferReady = false ∧
    s.outputRunning = false ∧ s.ledFast = false ∧ s.trace = []

/-- 10 R50: after reset, whatever the configuration record, every invariant holds.
Rests on the spec's own decision D51. That BuffersAligned holds of the records of endpoints 1 to 15, which R50 calls
unspecified, is the model's choice (log entry 12: buffer address 0), and so is the empty schedule (log entry 3). -/
def Obligations.ResetSatisfiesInvariants : Prop :=
  ∀ c : WfConfig, Inv (State.resetOf c) ∧ UsbReady (State.resetOf c) ∧ EndpointContract (State.resetOf c) ∧
    WireSchedule (State.resetOf c)

/-- 70 R500, 60 R456: RESET_PIN runs in every state, halted too, and gives every field its reset value under the same
parameters; the stimuli still to come and the free-value counter are the model's own and go on (log entries 3, 6).
Rests on the spec's own decision D51. What R50 and R500 leave unspecified has the model's reset values: `setup` and the
records of endpoints 1 to 15 (log entry 12), the contents of memory (log entry 11); so have the model's own fields (log
entries 4, 5, 24). -/
def Obligations.ResetPinResets : Prop :=
  ∀ s : State, exec .resetPin s =
    .next { State.resetOf s.cfg with schedule := s.schedule, freeCount := s.freeCount }

/-! ## Invariants that every step keeps -/

/-- 20 R80 to R83, R95: every step keeps every address space in canonical form, and every one but HWBUF inside its
bounds. HWBUF keeps the bytes of the period last written, whatever the period's size becomes (20 R84, log entry 13);
PlayingTickMixesOnePeriod and TicksWithoutMixing say what it holds. -/
def Obligations.StepKeepsMemories : Prop :=
  ∀ s t : State, MemoriesCanonical s ∧ MemoriesInBounds s → step s = .next t →
    MemoriesCanonical t ∧ MemoriesInBounds t

/-- 44 R310, R312: every step keeps the ring buffer's invariants, and that every byte it counts has been written.
Rests on the spec's own decision D34. -/
def Obligations.StepKeepsRing : Prop :=
  ∀ s t : State, RingOk s.rb ∧ RingFilled s.rb → step s = .next t → RingOk t.rb ∧ RingFilled t.rb

/-- 10 R33, R37, R38: every step keeps the sampling frequency a supported one and the two fill ratios in [0, 1]. -/
def Obligations.StepKeepsRateAndFractions : Prop :=
  ∀ s t : State, RingOk s.rb ∧ RateSupported s ∧ FractionsOk s → step s = .next t →
    RateSupported t ∧ FractionsOk t

/-- 20 R90, 43 R280 (c): every step keeps endpoint buffers and the layout on 64-byte boundaries. -/
def Obligations.StepKeepsAlignment : Prop :=
  ∀ s t : State, BuffersAligned s → step s = .next t → BuffersAligned t

/-- 10 R20, R24, R27, R31, R34, 41 R210: every step leaves the configuration record as it is and keeps the queue within
its capacity, one alternate setting per slot, a known format outside `Stopped`, a reply as long as its length, and a
captured packet while its payload is awaited, as reset leaves one. 10 R63: the driver's period is positive, and changes
only where DrvConfigure is emitted, to what the environment gives (the field `nextPeriod`: log entry 24), but for the
external reset. -/
def Obligations.StepKeepsControlData : Prop :=
  (∀ s t : State, step s = .next t →
    t.cfg = s.cfg ∧ (QueueBounded s → QueueBounded t) ∧ (AltSettingsSized s → AltSettingsSized t) ∧
    (FormatKnown s → FormatKnown t) ∧ (ReplyLongEnough s → ReplyLongEnough t) ∧ (CaptureHeld s → CaptureHeld t) ∧
    (PeriodsPositive s → PeriodsPositive t) ∧
    (s.schedule.head? ≠ some (.op .resetPin) → t.periodFrames = s.periodFrames ∨
      (t.periodFrames = s.nextPeriod ∧ ∃ b r, .drvConfigure b r ∈ t.trace.drop s.trace.length))) ∧
  (∀ c : WfConfig, CaptureHeld (State.resetOf c) ∧ PeriodsPositive (State.resetOf c))

/-- 60 R456, 10 R30: a halted machine stays as it is, whatever comes, but for the external reset.
That the hardware's OUT store and the environment's period are dropped while halted too is the model's reading (log entry
10); R456 and R30 speak of the operations of the two contexts. -/
def Obligations.HaltedMachineStays : Prop :=
  ∀ s : State, s.fatal ≠ none → s.schedule.head? ≠ some (.op .resetPin) →
    step s = .next { s with schedule := s.schedule.tail }

/-- 10 R60: a step only appends to the output trace, unless it is the external reset. -/
def Obligations.TraceOnlyGrows : Prop :=
  ∀ s t : State, s.schedule.head? ≠ some (.op .resetPin) → step s = .next t → s.trace <+: t.trace

/-- 43 R280 (b), R284, R286: on the stimuli of the wire every step keeps endpoint 0 working, the layout that of the
configuration, and every enabled buffer inside EPBUF; and, from reset on, every enabled endpoint's buffer where the layout
puts it, so that the buffers of two distinct enabled endpoints do not overlap.
Rests on the spec's own decisions D14, D15. -/
def Obligations.WireStepKeepsUsbReady : Prop :=
  (∀ s t : State, WireSchedule s ∧ UsbReady s → step s = .next t → WireSchedule t ∧ UsbReady t) ∧
  (∀ c : WfConfig, BuffersPlaced (State.resetOf c)) ∧
  (∀ s t : State, WireSchedule s ∧ UsbReady s ∧ BuffersPlaced s → step s = .next t →
    BuffersPlaced t ∧ BuffersApart t)

/-- 43 R280 (a): on the stimuli of the wire every step keeps endpoints 1 to 15 enabled exactly as the active alternate
settings say, where no external set-interface callback can fail (the default). -/
def Obligations.WireStepKeepsEndpointContract : Prop :=
  ∀ s t : State, NoExternalCallback s.cfg.val → WireSchedule s ∧ AltSettingsSized s ∧ EndpointContract s →
    step s = .next t → EndpointContract t

/-- 43 R286, R280 (b), (c): a layout that fits gives every endpoint address of the descriptor list a 64-byte-aligned
region inside EPBUF, in ascending address order and without overlap.
Rests on the spec's own decisions D14, D15. -/
def Obligations.LayoutIsPacked : Prop :=
  ∀ s t : State, s.fatal = none → s.bufLayout = [] → exec .computeLayout s = .next t → t.fatal = none →
    ∀ e ∈ (itemsFrom (0, 0) s.cfg.val.configItems).map (·.2),
      ∃ off, layoutAt t (addrOf e) = some off ∧ 64 ∣ off ∧
        off + Bits.roundup64 e.maxPacketSize ≤ s.cfg.val.sharedCapacity ∧
        ∀ e' ∈ (itemsFrom (0, 0) s.cfg.val.configItems).map (·.2), addrOf e < addrOf e' →
          ∃ off', layoutAt t (addrOf e') = some off' ∧ off + Bits.roundup64 e.maxPacketSize ≤ off'

/-! ## Exceptions -/

/-- 41 R216, 40 R178, R179, R186, 42 R258: the rows whose whole effect is a stall. -/
def Obligations.StallRowsStall : Prop :=
  ∀ s : State, s.fatal = none →
    exec .raiseStall s = .next (stalled s) ∧
    (∀ i x l, exec (.getDescriptorQualifier i x l) s = .next (stalled s)) ∧
    (∀ t i x l, exec (.getDescriptorOther t i x l) s = .next (stalled s)) ∧
    (∀ p, exec (.unhandled p) s = .next (stalled s)) ∧
    (∀ r v e l, exec (.acUnhandledIn r v e l) s = .next (stalled s))

/-- 60 R455, R456, 42 R247: the rows whose whole effect is the fatal halt. -/
def Obligations.FatalRowsHalt : Prop :=
  ∀ s : State, s.fatal = none →
    (∀ c, exec (.raiseFatal c) s = .next { s with fatal := some c }) ∧
    (∀ v r x i l, exec (.classOutOversize v r x i l) s = .next { s with fatal := some .oversizeOut })

/-! ## Control transfers -/

/-- 41 R210, R211: CtrlInStart arms the first chunk of the reply, SendNextChunk the next one. Where `sentLength` is above
`totalLength`, which 10 R23 excludes while a data stage runs, that SendNextChunk arms 0 bytes is the model's choice (log
entry 34). -/
def Obligations.DataStageSendsChunks : Prop :=
  (∀ (s : State) (buf : Bytes) (len : Nat), s.fatal = none → Ep0Ready s → len ≤ buf.length →
    ∃ t, exec (.ctrlInStart buf len) s = .next t ∧ DataStageStarted buf len s t) ∧
  (∀ s : State, s.fatal = none → Ep0Ready s →
    let n := min 64 (s.cts.totalLength - s.cts.sentLength)
    s.cts.sentLength + n ≤ s.cts.sourceBuffer.length →
    ∃ t, exec .sendNextChunk s = .next t ∧
      t = { s with
        cts := { s.cts with lastLen := n }, epIn := s.epIn.set 0 (s.epIn[0].afterArm n)
        trace := s.trace ++ [.hwArm 0 .IN n s.epIn[0].nextToggleBit], ep0in := t.ep0in } ∧
      ∀ a, t.ep0in.read a = stored 0 ((s.cts.sourceBuffer.drop s.cts.sentLength).take n) s.ep0in.read a)

/-- 40 R174 to R177: the standard reads answered with a data stage. A GET_STATUS or STRING reply longer than `wLength`
is cut to it, which is the model's choice (93 U1 allows it; log entry 7).
Rests on the spec's own decision D7. -/
def Obligations.StandardReadsReply : Prop :=
  ∀ s : State, s.fatal = none → Ep0Ready s →
    (∀ v i l, ∃ t, exec (.getStatus v i l) s = .next t ∧ DataStageStarted [0x00, 0x00] (min l.toNat 2) s t) ∧
    (∀ d i l, ∃ t, exec (.getDescriptorDevice d i l) s = .next t ∧
      DataStageStarted s.cfg.val.deviceDescriptor (min l.toNat 18) s t) ∧
    (∀ d i l, ∃ t, exec (.getDescriptorConfiguration d i l) s = .next t ∧
      DataStageStarted s.cfg.val.configDescriptor (min l.toNat s.cfg.val.configDescriptor.length) s t) ∧
    (∀ d i l, ∃ t, exec (.getDescriptorString d i l) s = .next t ∧
      DataStageStarted s.cfg.val.stringPlaceholder (min l.toNat s.cfg.val.stringPlaceholder.length) s t)

/-- 42 R252 to R257, 30 R131, R132: the Audio Control reads. A reply longer than `wLength` is cut to it, which is the
model's choice (93 U1; log entry 7). GET_RANGE_MUTE stalls where the parameter gives no reply. -/
def Obligations.AudioControlReadsReply : Prop :=
  ∀ s : State, s.fatal = none → Ep0Ready s →
    (∀ ch l, ∃ t, exec (.getCurVolume ch l) s = .next t ∧
      DataStageStarted [(s.channel ch).volume.extractLsb' 0 8, (s.channel ch).volume.extractLsb' 8 8]
        (min l.toNat 2) s t) ∧
    (∀ ch l, ∃ t, exec (.getRangeVolume ch l) s = .next t ∧
      DataStageStarted [0x01, 0x00, 0x00, 0xA0, 0x00, 0x00, 0x00, 0x01] (min l.toNat 8) s t) ∧
    (∀ ch l, ∃ t, exec (.getCurMute ch l) s = .next t ∧
      DataStageStarted [if (s.channel ch).muted then 0x01 else 0x00] (min l.toNat 1) s t) ∧
    (∀ ch l, match s.cfg.val.muteRangeReply with
      | none => exec (.getRangeMute ch l) s = .next (stalled s)
      | some b => ∃ t, exec (.getRangeMute ch l) s = .next t ∧ DataStageStarted b (min l.toNat b.length) s t) ∧
    (∀ ch l, ∃ t, exec (.getCurFreq ch l) s = .next t ∧
      DataStageStarted [s.sampleRate.extractLsb' 0 8, s.sampleRate.extractLsb' 8 8, s.sampleRate.extractLsb' 16 8,
        s.sampleRate.extractLsb' 24 8] (min l.toNat 4) s t) ∧
    (∀ ch l, ∃ t, exec (.getRangeFreq ch l) s = .next t ∧
      DataStageStarted
        ([0x04, 0x00]
          ++ [0x44, 0xAC, 0x00, 0x00, 0x44, 0xAC, 0x00, 0x00, 0x00, 0x00, 0x00, 0x00]
          ++ [0x80, 0xBB, 0x00, 0x00, 0x80, 0xBB, 0x00, 0x00, 0x00, 0x00, 0x00, 0x00]
          ++ [0x88, 0x58, 0x01, 0x00, 0x88, 0x58, 0x01, 0x00, 0x00, 0x00, 0x00, 0x00]
          ++ [0x00, 0x77, 0x01, 0x00, 0x00, 0x77, 0x01, 0x00, 0x00, 0x00, 0x00, 0x00]) (min l.toNat 50) s t)

/-- 42 R242, R244: a class or vendor IN request is answered with what the handler of its slot replies, and stalls
where there is no handler or it answers `Unhandled`. A reply longer than `wLength` is cut to it (log entry 7).
Rests on the spec's own decisions D7, D57. -/
def Obligations.ClassInReplies : Prop :=
  ∀ (s : State), s.fatal = none → Ep0Ready s →
    (∀ p : SetupPacket, p.dirIn = true → ∃ t, exec (.routeClass p) s = .next t ∧ InAnswered p s t) ∧
    (∀ r v i l, ∃ t, exec (.classIn r v i l) s = .next t ∧
      InAnswered (interfacePacket true Code.typeClass r v i l) s t) ∧
    (∀ r v i l, ∃ t, exec (.classInVendor r v i l) s = .next t ∧
      InAnswered (interfacePacket true Code.typeVendor r v i l) s t)

/-- 42 R245: a class or vendor OUT request without payload invokes the handler at once and is acknowledged or stalls;
unrouted it stalls; the Audio Control handler fails every such request.
An external slot's answer is open and only draws a free value, which is the spec's own decision D57 (42 R243) and the
model's choice (log entry 15). -/
def Obligations.ClassOutWithoutPayload : Prop :=
  ∀ (s : State), s.fatal = none → s.epIn[0].enabled = true →
    (∀ p : SetupPacket, p.dirIn = false → p.length = 0 → ∃ t, exec (.routeClass p) s = .next t ∧ Out0Answered p s t) ∧
    (∀ r v i, ∃ t, exec (.classOut0 r v i) s = .next t ∧
      Out0Answered (interfacePacket false Code.typeClass r v i 0) s t) ∧
    (∀ r v i, ∃ t, exec (.classOut0Vendor r v i) s = .next t ∧
      Out0Answered (interfacePacket false Code.typeVendor r v i 0) s t)

/-- 42 R246, R247: a class or vendor OUT request with a payload of at most one packet is captured and its one OUT
transfer armed; unrouted it stalls, whatever its length; routed and longer it is the fatal fault. The setup words of
the Audio Control setters are such requests.
Rests on the spec's own decision D20. -/
def Obligations.ClassOutArmsPayload : Prop :=
  ∀ (s : State), s.fatal = none → Ep0Ready s →
    (∀ p : SetupPacket, p.dirIn = false → p.length ≠ 0 → exec (.routeClass p) s = .next (captured p s)) ∧
    (∀ r v i l, exec (.classOut r v i l) s = .next (captured (interfacePacket false Code.typeClass r v i l) s)) ∧
    (∀ r v i l, exec (.classOutVendor r v i l) s
      = .next (captured (interfacePacket false Code.typeVendor r v i l) s)) ∧
    (∀ l, l ≠ 0 →
      (∀ ch, exec (.setCurVolume ch (.setup l)) s
        = .next (captured (acPacket s.cfg.val false 1 (mkField 2 ch.byte) s.cfg.val.fuId l) s)) ∧
      (∀ ch, exec (.setCurMute ch (.setup l)) s
        = .next (captured (acPacket s.cfg.val false 1 (mkField 1 ch.byte) s.cfg.val.fuId l) s)) ∧
      (∀ ch, exec (.setCurFreq ch (.setup l)) s
        = .next (captured (acPacket s.cfg.val false 1 (mkField 1 ch) s.cfg.val.clkId l) s)) ∧
      (∀ r v e, exec (.acUnhandledOut r v e (.setup l)) s
        = .next (captured (acPacket s.cfg.val false r v e l) s)))

/-- 42 R261 to R268: the Audio Control setters on a payload store the value and return `ok`; a payload of another
width, an unsupported frequency or an unhandled request returns `fail` and stores nothing; nothing else changes.
Rests on the spec's own decisions D22 to D26. -/
def Obligations.SettersStore : Prop :=
  ∀ s : State, s.fatal = none →
    (∀ ch x y, ∃ t, exec (.setCurVolume ch (.payload [x, y])) s = .next t ∧
      t = { s with chan := t.chan, ret := .bool true } ∧
      ∀ c, t.channel c = if c = ch then { s.channel ch with volume := y ++ x } else s.channel c) ∧
    (∀ ch x, ∃ t, exec (.setCurMute ch (.payload [x])) s = .next t ∧
      t = { s with chan := t.chan, ret := .bool true } ∧
      ∀ c, t.channel c = if c = ch then { s.channel ch with muted := decide (x ≠ 0) } else s.channel c) ∧
    (∀ ch w x y z, let r : BitVec 32 := z ++ y ++ x ++ w
      exec (.setCurFreq ch (.payload [w, x, y, z])) s =
        .next (if r = 44100 ∨ r = 48000 ∨ r = 88200 ∨ r = 96000 then { s with sampleRate := r, ret := .bool true }
          else { s with ret := .bool false })) ∧
    (∀ b : Bytes,
      (b.length ≠ 2 → ∀ ch, exec (.setCurVolume ch (.payload b)) s = .next { s with ret := .bool false }) ∧
      (b.length ≠ 1 → ∀ ch, exec (.setCurMute ch (.payload b)) s = .next { s with ret := .bool false }) ∧
      (b.length ≠ 4 → ∀ ch, exec (.setCurFreq ch (.payload b)) s = .next { s with ret := .bool false }) ∧
      ∀ r v e, exec (.acUnhandledOut r v e (.payload b)) s = .next { s with ret := .bool false })

/-- 42 R248, R260: InvokeOutHandler on a packet for the Audio Control interface is the setter its fields select, or
fails; on an external slot its result is open and only draws a free value (the spec's own decision D57; the model's
choice, log entry 15); on an empty slot, which R248 says it never meets, it is refused (the model's reading, log entry
17). -/
def Obligations.InvokeOutHandlerSelects : Prop :=
  ∀ (s : State) (b : Bytes) (l : BitVec 16), s.fatal = none →
    (∀ ch, exec (.invokeOutHandler (acPacket s.cfg.val false 1 (mkField 2 ch.byte) s.cfg.val.fuId l) b) s
      = exec (.setCurVolume ch (.payload b)) s) ∧
    (∀ ch, exec (.invokeOutHandler (acPacket s.cfg.val false 1 (mkField 1 ch.byte) s.cfg.val.fuId l) b) s
      = exec (.setCurMute ch (.payload b)) s) ∧
    (∀ ch, exec (.invokeOutHandler (acPacket s.cfg.val false 1 (mkField 1 ch) s.cfg.val.clkId l) b) s
      = exec (.setCurFreq ch (.payload b)) s) ∧
    (∀ q : SetupPacket, q.slot = s.cfg.val.acIf →
      q.type ≠ 1 ∨ s.cfg.val.acKnows false q.request q.value q.entity = false →
      exec (.invokeOutHandler q b) s = .next { s with ret := .bool false }) ∧
    (∀ q : SetupPacket, s.cfg.val.hasOutHandler q.slot = true → q.slot ≠ s.cfg.val.acIf →
      exec (.invokeOutHandler q b) s = .next { s with
        freeCount := s.freeCount + 1, ret := .bool (Config.extOut s.freeCount q.slot q b) }) ∧
    (∀ q : SetupPacket, s.cfg.val.hasOutHandler q.slot = false →
      exec (.invokeOutHandler q b) s = .refused .emptySlot)

/-- 42 R270: a volume set with SET_CUR_VOLUME is what GET_CUR_VOLUME then puts on the wire. -/
def Obligations.VolumeRoundTrip : Prop :=
  ∀ (s u t : State) (ch : Chan) (x y : Byte) (l : BitVec 16), s.fatal = none → Ep0Ready s → 2 ≤ l.toNat →
    exec (.setCurVolume ch (.payload [x, y])) s = .next u → exec (.getCurVolume ch l) u = .next t →
    t.cts.totalLength = 2 ∧ t.ep0in.read 0 = some x ∧ t.ep0in.read 1 = some y ∧
    t.epIn[0].armed = some (.fresh 2 s.epIn[0].nextToggleBit)

/-- 41 R214, 40 R180, 41 R213: Ack arms a zero-length IN with DATA1 and waits for its completion; SET_ADDRESS stores
the address and acknowledges; the completion of the status stage applies it; with no address pending it only ends.
Rests on the spec's own decisions D8 to D10. -/
def Obligations.AddressIsDeferred : Prop :=
  (∀ s : State, s.fatal = none → s.epIn[0].enabled = true → exec .ack s = .next (acked s)) ∧
  (∀ (s : State) (v i l : BitVec 16), s.fatal = none → s.epIn[0].enabled = true →
    exec (.setAddress v i l) s =
      .next (acked { s with pendingAddress := (v.extractLsb' 0 7).setWidth 8, addressPending := true })) ∧
  (∀ (s : State) (n : Nat), s.fatal = none → s.ctrlPhase = .statusIn →
    exec (.ep0InDoneStatus n) s = .next
      (if s.addressPending then
        { s with
          deviceAddress := s.pendingAddress, addressPending := false, ctrlPhase := .idle
          trace := s.trace ++ [.hwSetAddress s.pendingAddress] }
      else { s with ctrlPhase := .idle }))

/-- 41 R212: a completed IN packet of a data stage advances `sentLength`; then the next chunk, the zero-length
terminator after a last chunk of 64 bytes, or the zero-length status OUT with DATA1. -/
def Obligations.Ep0InDataAdvances : Prop :=
  ∀ (s : State) (len : Nat), s.fatal = none → Ep0Ready s → s.ctrlPhase = .dataIn → ReplyLongEnough s →
    let sent := s.cts.sentLength + s.cts.lastLen
    (sent < s.cts.totalLength →
      let n := min 64 (s.cts.totalLength - sent)
      ∃ t, exec (.ep0InDoneData len) s = .next t ∧
        t = { s with
          cts := { s.cts with sentLength := sent, lastLen := n }, epIn := s.epIn.set 0 (s.epIn[0].afterArm n)
          trace := s.trace ++ [.hwArm 0 .IN n s.epIn[0].nextToggleBit], ep0in := t.ep0in } ∧
        ∀ a, t.ep0in.read a = stored 0 ((s.cts.sourceBuffer.drop sent).take n) s.ep0in.read a) ∧
    (s.cts.totalLength ≤ sent → s.cts.lastLen = 64 →
      exec (.ep0InDoneData len) s = .next { s with
        cts := { s.cts with sentLength := sent, lastLen := 0 }, epIn := s.epIn.set 0 (s.epIn[0].afterArm 0)
        trace := s.trace ++ [.hwArm 0 .IN 0 s.epIn[0].nextToggleBit] }) ∧
    (s.cts.totalLength ≤ sent → s.cts.lastLen ≠ 64 →
      exec (.ep0InDoneData len) s = .next { s with
        cts := { s.cts with sentLength := sent }, ctrlPhase := .statusOut
        epOut := s.epOut.set 0 { s.epOut[0] with armed := some (.fresh 0 .data1), nextToggleBit := .data0 }
        trace := s.trace ++ [.hwArm 0 .OUT 0 .data1] })

/-- 41 R215: the completion that delivers a class payload invokes the handler of the captured packet on the bytes in
EP0OUT and acknowledges or stalls; the capture is dropped.
An external slot's answer is open and only draws a free value, which is the spec's own decision D57 (42 R243) and the
model's choice (log entry 15). -/
def Obligations.Ep0OutDataInvokesHandler : Prop :=
  ∀ (s : State) (len : Nat) (q : SetupPacket) (payload : Bytes), s.fatal = none → s.epIn[0].enabled = true →
    s.ctrlPhase = .dataOut → s.pendingOut = some q → s.cfg.val.hasOutHandler q.slot = true → len ≤ 64 →
    s.ep0out.readN 0 len = some payload →
    exec (.ep0OutDoneData len) s = .next (answered (outAnswer q payload { s with pendingOut := none }))

/-- 41 R217, R218: a completion on endpoint 0 does what the phase and the direction say; a phase that expects none
ignores it.
Rests on the spec's own decisions D4, D54. -/
def Obligations.Ep0DoneFollowsPhase : Prop :=
  ∀ (s : State) (n : Nat), s.fatal = none →
    (s.ctrlPhase = .dataIn → exec (.ep0Done .IN n) s = exec (.ep0InDoneData n) s) ∧
    (s.ctrlPhase = .statusIn → exec (.ep0Done .IN n) s = exec (.ep0InDoneStatus n) s) ∧
    (s.ctrlPhase = .dataOut → exec (.ep0Done .OUT n) s = exec (.ep0OutDoneData n) s) ∧
    (s.ctrlPhase = .statusOut → exec (.ep0Done .OUT n) s = .next { s with ctrlPhase := .idle }) ∧
    (∀ d, (d = .IN → s.ctrlPhase ≠ .dataIn ∧ s.ctrlPhase ≠ .statusIn) →
      (d = .OUT → s.ctrlPhase ≠ .dataOut ∧ s.ctrlPhase ≠ .statusOut) → exec (.ep0Done d n) s = .next s)

/-- 40 R171, R454: whatever the setup packet, an engine that is ready answers it in exactly one of five ways: a data
stage, a status stage, one armed OUT packet, a stall or the fatal halt. A stall leaves all else as R170 left it,
unless the packet is SET_CONFIGURATION or SET_INTERFACE (the two exceptions R454 names).
A reply longer than `wLength`, for which the spec makes no claim (93 U1), is cut to it: the model's choice (log entry
7). An external handler's answer is open (log entry 15), and so is the effect of EP_CLEAR where the configuration gives
another than the reference (93 U8, log entry 19). -/
def Obligations.EverySetupIsAnswered : Prop :=
  ∀ (s : State) (p : SetupPacket), s.fatal = none → UsbReady s →
    ∃ t, exec (.evSetup p) s = .next t ∧ exec (.handle (.setupPacket p)) s = .next t ∧
      exec (.dispatch p) (acceptSetup p s) = .next t ∧ t.setup = p ∧
      ((t.fatal = none ∧ t.ep0Stalled = false ∧
          (t.ctrlPhase = .dataIn ∨ t.ctrlPhase = .statusIn ∨ t.ctrlPhase = .dataOut)) ∨
       (t.fatal = none ∧ t.ep0Stalled = true ∧ t.ctrlPhase = .idle ∧
          ({ t with freeCount := s.freeCount } = stalled (acceptSetup p s) ∨
            (p.type = Code.typeStandard ∧ (p.request = Code.setConfiguration ∨ p.request = Code.setInterface)))) ∨
       (t.fatal ≠ none ∧ t.ep0Stalled = false ∧ t.ctrlPhase = .idle))

/-! ## Endpoints and configuration -/

/-- 43 R292, R294: startTransfer fails and changes nothing on a disabled endpoint or a length above its max packet
size; else it copies an IN buffer, arms with the toggle and inverts the toggle.
Rests on the spec's own decision D59. -/
def Obligations.StartTransferArms : Prop :=
  ∀ (s : State) (n : Fin 16) (d : Dir) (buffer : Bytes) (length : Nat), s.fatal = none →
    ((s.ep n d).enabled = false ∨ (s.ep n d).maxPacketSize < length →
      exec (.startTransfer n d buffer length) s = .next { s with ret := .bool false }) ∧
    ((s.ep n d).enabled = true → length ≤ (s.ep n d).maxPacketSize →
      (d = .IN → length ≤ buffer.length ∧
        if n = 0 then length ≤ 64 else (s.ep n d).bufferAddress + length ≤ s.cfg.val.sharedCapacity) →
      ∃ t, exec (.startTransfer n d buffer length) s = .next t ∧
        t = { s with
          epOut := t.epOut, epIn := t.epIn, ep0in := t.ep0in, epbuf := t.epbuf, ret := .bool true
          trace := s.trace ++ [.hwArm n d length (s.ep n d).nextToggleBit] } ∧
        (∀ m e, t.ep m e = if m = n ∧ e = d then
          { s.ep n d with
            armed := some (.fresh length (s.ep n d).nextToggleBit)
            nextToggleBit := if (s.ep n d).nextToggleBit = .data0 then .data1 else .data0 }
          else s.ep m e) ∧
        (∀ a, t.ep0in.read a =
          if d = .IN ∧ n = 0 then stored 0 (buffer.take length) s.ep0in.read a else s.ep0in.read a) ∧
        (∀ a, t.epbuf.read a =
          if d = .IN ∧ n ≠ 0 then stored (s.ep n d).bufferAddress (buffer.take length) s.epbuf.read a
          else s.epbuf.read a))

/-- 43 R282, R286, R288: disabling, enabling, and computing the layout. That an item the configuration does not list is
enabled where its address has a layout is the model's choice (log entry 34).
Rests on the spec's own decisions D14 to D16. -/
def Obligations.EndpointsEnableAndDisable : Prop :=
  (∀ (s : State) (n : Fin 16) (d : Dir), s.fatal = none → ∃ t, exec (.disableEndpoint n d) s = .next t ∧
    t = { s with
      epOut := t.epOut, epIn := t.epIn
      trace := s.trace ++ if (s.ep n d).enabled then [.hwDisableEndpoint n d] else [] } ∧
    ∀ m e, t.ep m e = if m = n ∧ e = d then { s.ep n d with enabled := false, armed := none } else s.ep m e) ∧
  (∀ (s : State) (e : EpItem) (off : Nat), s.fatal = none → layoutAt s (addrOf e) = some off →
    ∃ t, exec (.enableEndpoint e) s = .next t ∧
      t = { s with
        epOut := t.epOut, epIn := t.epIn
        trace := s.trace ++ [.hwEnableEndpoint e.number e.direction e.type off] } ∧
      ∀ m d, t.ep m d = if m = e.number ∧ d = e.direction then ⟨e.type, e.maxPacketSize, off, .data0, true, none⟩
        else s.ep m d) ∧
  (∀ s : State, s.fatal = none → exec .computeLayout s = .next { s with
    bufLayout := (layoutOf s.cfg.val s.bufLayout).1
    fatal := if s.cfg.val.sharedCapacity < (layoutOf s.cfg.val s.bufLayout).2 then some .bufferAlloc else none })

/-- 43 R290: setAlternateSetting fails and changes nothing without an active configuration or such an alternate
setting; else the old setting's endpoints are disabled, the new one's enabled, and the setting stored.
Rests on the spec's own decision D16. -/
def Obligations.AlternateSettingSwitches : Prop :=
  ∀ (s : State) (i a : BitVec 16), s.fatal = none →
    (s.activeConfig = 0 ∨ hasAlt s.cfg.val i.toNat a.toNat = false →
      exec (.setAlternateSetting i a) s = .next { s with ret := .bool false }) ∧
    (s.activeConfig ≠ 0 → hasAlt s.cfg.val i.toNat a.toNat = true → LayoutKnown s →
      let old := endpointsOf s.cfg.val i.toNat (altSettingOf s i.toNat).toNat
      let new := endpointsOf s.cfg.val i.toNat a.toNat
      ∃ t, exec (.setAlternateSetting i a) s = .next t ∧
        t = { s with
          epOut := t.epOut, epIn := t.epIn, altSetting := s.altSetting.set i.toNat (a.setWidth 8), ret := .bool true
          trace := s.trace
            ++ (old.filter fun e => (s.ep e.number e.direction).enabled).map
                (fun e => .hwDisableEndpoint e.number e.direction)
            ++ new.map fun e =>
                .hwEnableEndpoint e.number e.direction e.type ((layoutAt s (addrOf e)).getD 0) } ∧
        (∀ e ∈ new, ∃ off, layoutAt s (addrOf e) = some off ∧
          t.ep e.number e.direction = ⟨e.type, e.maxPacketSize, off, .data0, true, none⟩) ∧
        (∀ n d, (∀ e ∈ new, ¬(e.number = n ∧ e.direction = d)) →
          t.ep n d = if ∃ e ∈ old, e.number = n ∧ e.direction = d then
            { s.ep n d with enabled := false, armed := none } else s.ep n d))

/-- 43 R284: activateConfiguration. An unknown number fails before any change; 0 deactivates; the configuration's
number with a layout too large is the fatal fault. With one that fits the interfaces are activated in order: the endpoints
of alternate setting 0 enabled with DATA0, then the callback, which for the streaming interface stops the stream. An
external callback that answers `fail` ends the walk and the activation fails; else it reaches every interface and
succeeds. `done` are the interfaces activated, `asked` those of them whose callback is external.
Rests on the spec's own decisions D11 to D13 and D57: an external callback's answer is open and only draws a free value
(log entry 15). -/
def Obligations.ConfigurationActivates : Prop :=
  ∀ (s : State) (n : Byte), s.fatal = none →
    let c := s.cfg.val
    (n ≠ 0 → n ≠ c.configValue → exec (.activateConfiguration n) s = .next { s with ret := .bool false }) ∧
    (n = 0 → ∃ t, exec (.activateConfiguration n) s = .next t ∧ t.ret = .bool true ∧ Deactivated s t ∧
      (∀ d, t.ep 0 d = s.ep 0 d) ∧ SameControl s t ∧ t.ctrlPhase = s.ctrlPhase ∧ t.pendingOut = s.pendingOut ∧
      t.trace = s.trace ++ disableCommands s) ∧
    (n ≠ 0 → n = c.configValue → c.sharedCapacity < (layoutOf c []).2 →
      ∃ t, exec (.activateConfiguration n) s = .next t ∧
        t = { s with
          epOut := t.epOut, epIn := t.epIn, bufLayout := (layoutOf c []).1, altSetting := s.altSetting.map fun _ => 0
          activeConfig := 0, fatal := some .bufferAlloc, trace := s.trace ++ disableCommands s } ∧
        (∀ d, t.ep 0 d = s.ep 0 d) ∧
        (∀ m d, m ≠ 0 → t.ep m d = { s.ep m d with enabled := false, armed := none })) ∧
    (n ≠ 0 → n = c.configValue → (layoutOf c []).2 ≤ c.sharedCapacity →
      ∃ (t : State) (done : List Byte) (b : Bool), exec (.activateConfiguration n) s = .next t ∧
        let asked := externalCallbacks c done
        done <+: interfacesOf c ∧ (b = true → done = interfacesOf c) ∧
        (b = false → ∃ i, done.getLast? = some i ∧ asked.getLast? = some i) ∧
        (∀ j i, asked[j]? = some i → Config.extSetIf (s.freeCount + j) i 0 = (b || decide (j + 1 < asked.length))) ∧
        (NoExternalCallback c → b = true) ∧
        t = { s with
          epOut := t.epOut, epIn := t.epIn, bufLayout := (layoutOf c []).1, altSetting := s.altSetting.map fun _ => 0
          activeConfig := n, ret := .bool b, freeCount := s.freeCount + asked.length
          pstate := if c.asIf ∈ done then .stopped else s.pstate
          outputRunning := if c.asIf ∈ done then false else s.outputRunning
          trace := s.trace ++ disableCommands s ++ done.flatMap (activationCommands c) } ∧
        (∀ d, t.ep 0 d = s.ep 0 d) ∧
        (∀ i ∈ done, ∀ e ∈ endpointsOf c i.toNat 0, ∃ off, (layoutOf c []).1.lookup (addrOf e) = some off ∧
          t.ep e.number e.direction = ⟨e.type, e.maxPacketSize, off, .data0, true, none⟩) ∧
        (∀ m d, m ≠ 0 → (∀ i ∈ done, ∀ e ∈ endpointsOf c i.toNat 0, ¬(e.number = m ∧ e.direction = d)) →
          t.ep m d = { s.ep m d with enabled := false, armed := none }) ∧
        BuffersFit t ∧ (b = true → EndpointContract t))

/-- 40 R181: SET_CONFIGURATION activates the configuration and acknowledges or stalls on its result; a fatal fault in
the layout ends it. -/
def Obligations.SetConfigurationAnswers : Prop :=
  ∀ (s : State) (v i l : BitVec 16), s.fatal = none → UsbReady s →
    ∃ u, exec (.activateConfiguration (v.extractLsb' 0 8)) s = .next u ∧
      exec (.setConfiguration v i l) s = .next
        (if u.fatal ≠ none then u
         else if u.ret = .bool true then acked { u with ret := s.ret } else stalled { u with ret := s.ret })

/-- 40 R182: SET_INTERFACE switches the alternate setting, invokes the interface's callback, and acknowledges; the
failure of either stalls.
Rests on the spec's own decisions D18, D28, D57. -/
def Obligations.SetInterfaceAnswers : Prop :=
  ∀ (s : State) (v i l : BitVec 16), s.fatal = none → UsbReady s →
    ∃ u, exec (.setAlternateSetting i v) s = .next { u with ret := .bool (hasAlt s.cfg.val i.toNat v.toNat &&
        decide (s.activeConfig ≠ 0)) } ∧ u.ret = s.ret ∧
      (s.activeConfig = 0 ∨ hasAlt s.cfg.val i.toNat v.toNat = false →
        exec (.setInterface v i l) s = .next (stalled u)) ∧
      (s.activeConfig ≠ 0 → hasAlt s.cfg.val i.toNat v.toNat = true →
        (setIfCallback s.cfg.val i = none → exec (.setInterface v i l) s = .next (acked u)) ∧
        (i.toNat = s.cfg.val.asIf.toNat → ∃ (w : State) (b : Bool),
          exec (.setIfCallbackAsIf v) u = .next { w with ret := .bool b } ∧
          w.ret = u.ret ∧ exec (.setInterface v i l) s = .next (if b then acked w else stalled w)) ∧
        (setIfCallback s.cfg.val i = some .external →
          exec (.setInterface v i l) s = .next
            (let w := { u with freeCount := u.freeCount + 1 }
             if Config.extSetIf u.freeCount (i.setWidth 8) v then acked w else stalled w)))

/-- 40 R184: EP_CLEAR with its reference effect returns every enabled endpoint above 0 to DATA0 and unarmed, arms the
streaming and the feedback endpoint again, in this order, and acknowledges. With another effect (93 U8), a
function of the state of the device, it stalls, or does to the endpoints what that effect says and acknowledges; what it
says is open (log entry 19).
Rests on the spec's own decision D48. -/
def Obligations.EpClearResetsToggles : Prop :=
  (∀ (s : State) (vendor : Bool) (v l : BitVec 16), s.fatal = none → s.cfg.val.clearEffect = .reference →
    s.epIn[0].enabled = true → BuffersFit s →
    let so := s.cfg.val.epStreamOut
    let fb := s.cfg.val.epFbIn
    let armsFb := (s.ep fb .IN).enabled = true ∧ 4 ≤ (s.ep fb .IN).maxPacketSize
    ∃ t, exec (.epClear vendor v l) s = .next t ∧
      t = { s with
        epOut := t.epOut, epIn := t.epIn, epbuf := t.epbuf, ctrlPhase := .statusIn
        filtered := if (s.ep fb .IN).enabled then filterStep s else s.filtered
        trace := s.trace
          ++ (if (s.ep so .OUT).enabled = true then [.hwArm so .OUT (s.ep so .OUT).maxPacketSize .data0] else [])
          ++ (if armsFb then [.hwArm fb .IN 4 .data0] else []) ++ [.hwArm 0 .IN 0 .data1] } ∧
      t.epIn[0] = { s.epIn[0] with armed := some (.fresh 0 .data1), nextToggleBit := .data0 } ∧
      t.epOut[0] = s.epOut[0] ∧
      (∀ n d, n ≠ 0 → (s.ep n d).enabled = false → t.ep n d = s.ep n d) ∧
      (∀ n d, n ≠ 0 → (s.ep n d).enabled = true → ¬(n = so ∧ d = .OUT) → ¬(n = fb ∧ d = .IN) →
        t.ep n d = { s.ep n d with armed := none, nextToggleBit := .data0 }) ∧
      ((s.ep so .OUT).enabled = true → t.ep so .OUT =
        { s.ep so .OUT with armed := some (.fresh (s.ep so .OUT).maxPacketSize .data0), nextToggleBit := .data1 }) ∧
      (armsFb → t.ep fb .IN = { s.ep fb .IN with armed := some (.fresh 4 .data0), nextToggleBit := .data1 }) ∧
      ((s.ep fb .IN).enabled = true → (s.ep fb .IN).maxPacketSize < 4 →
        t.ep fb .IN = { s.ep fb .IN with armed := none, nextToggleBit := .data0 }) ∧
      (armsFb → ∀ a, t.epbuf.read a = stored (s.ep fb .IN).bufferAddress (feedbackBytes s) s.epbuf.read a) ∧
      (¬armsFb → t.epbuf = s.epbuf)) ∧
  (∀ (s : State) (vendor : Bool) (v l : BitVec 16) (k : Nat), s.fatal = none → s.cfg.val.clearEffect = .custom k →
    Ep0Ready s → BuffersFit s →
    (Config.clearPlan k s.device = none → exec (.epClear vendor v l) s = .next (stalled s)) ∧
    (Config.clearPlan k s.device ≠ none → ∃ t, exec (.epClear vendor v l) s = .next t ∧
      t = { s with
        epOut := t.epOut, epIn := t.epIn, epbuf := t.epbuf, ep0in := t.ep0in, trace := t.trace
        filtered := t.filtered, ctrlPhase := .statusIn } ∧
      (t.epIn[0]).armed = some (.fresh 0 .data1) ∧ (t.epIn[0]).nextToggleBit = .data0 ∧
      ∀ n d, t.ep n d = { s.ep n d with armed := (t.ep n d).armed, nextToggleBit := (t.ep n d).nextToggleBit }))

/-! ## Events -/

/-- 48 R426, R425: a completion notice clears `armed` of an enabled endpoint and does what its endpoint says; one for
a disabled endpoint is ignored.
Rests on the spec's own decisions D54, D57. -/
def Obligations.BufferDoneDispatches : Prop :=
  ∀ (s : State) (n : Fin 16) (d : Dir) (len : Nat), s.fatal = none →
    exec (.handle (.bufferDone n d len)) s = exec (.evBufferDone n d len) s ∧
    ((s.ep n d).enabled = false → exec (.evBufferDone n d len) s = .next s) ∧
    ((s.ep n d).enabled = true → ∃ u : State, u = { s with epOut := u.epOut, epIn := u.epIn } ∧
      (∀ m e, u.ep m e = if m = n ∧ e = d then { s.ep n d with armed := none } else s.ep m e) ∧
      (n = 0 → exec (.evBufferDone n d len) s = exec (.ep0Done d len) u) ∧
      (n = s.cfg.val.epStreamOut → d = .OUT → exec (.evBufferDone n d len) s = exec (.streamOutDone len) u) ∧
      (n = s.cfg.val.epFbIn → d = .IN → exec (.evBufferDone n d len) s = exec (.feedbackInDone len) u) ∧
      (n ≠ 0 → ¬(n = s.cfg.val.epStreamOut ∧ d = .OUT) → ¬(n = s.cfg.val.epFbIn ∧ d = .IN) →
        exec (.evBufferDone n d len) s = .next u))

/-- 48 R430: a bus reset returns the USB side to the unaddressed, unconfigured state and leaves the rest.
Rests on the spec's own decision D47. -/
def Obligations.BusResetUnconfigures : Prop :=
  ∀ s : State, s.fatal = none → ∃ t, exec .evBusReset s = .next t ∧ exec (.handle .busReset) s = .next t ∧
    t.deviceAddress = 0 ∧ t.pendingAddress = 0 ∧ t.addressPending = false ∧ t.pendingOut = none ∧
    t.ep0Stalled = false ∧ t.ctrlPhase = .idle ∧
    (∀ d, t.ep 0 d = { s.ep 0 d with armed := none, nextToggleBit := .data0 }) ∧ Deactivated s t ∧
    t.setup = s.setup ∧ t.cts = s.cts ∧ t.ep0in = s.ep0in ∧ t.ep0out = s.ep0out ∧ t.ret = s.ret ∧
    t.trace = s.trace ++ [.hwSetAddress 0] ++ disableCommands s

/-- 48 R420, R422, R432, R434, 10 R66, R67: what the two contexts do to the queue and to the buffer-ready flag, each in
one step. A push appends or halts, and the notice of an OUT endpoint closes its buffer to the hardware until the next
arming (20 R81); a notice that breaks the hardware contract has no meaning (93 U13).
Rests on the spec's own decision D58; the fields `stored` and `noticed` that hold what the hardware has done are the
model's own, and that a notice of a disabled endpoint is let through is its reading (log entry 9). That the phase which
exempts a notice of endpoint 0 (41 R218, 93 U13) is the one at the push is the model's choice (log entry 32), and so is
that `enabled` is tested at the push (log entry 33). -/
def Obligations.QueueAndFlagSteps : Prop :=
  ∀ s : State, s.fatal = none →
    (∀ e, (∀ n d len, e ≠ .bufferDone n d len) →
      (s.evq.length < s.cfg.val.qCap → exec (.push e) s = .next { s with evq := s.evq ++ [e] }) ∧
      (s.cfg.val.qCap ≤ s.evq.length → exec (.push e) s = .next { s with fatal := some .queueOverflow })) ∧
    (∀ n d len, BreaksContract s n d len →
      exec (.push (.bufferDone n d len)) s = .refused (.hardwareContract n d)) ∧
    (∀ n d len, ¬BreaksContract s n d len →
      (s.evq.length < s.cfg.val.qCap → ∃ t, exec (.push (.bufferDone n d len)) s = .next t ∧
        t = { s with evq := s.evq ++ [.bufferDone n d len], epOut := t.epOut } ∧
        ∀ m e, t.ep m e = if m = n ∧ e = d ∧ d = .OUT then
          { s.ep n d with armed := (s.ep n d).armed.map fun a => { a with noticed := true } } else s.ep m e) ∧
      (s.cfg.val.qCap ≤ s.evq.length →
        exec (.push (.bufferDone n d len)) s = .next { s with fatal := some .queueOverflow })) ∧
    exec .pop s = .next { s with evq := s.evq.tail, ret := .event s.evq.head? } ∧
    exec .bufferReady s = .next { s with bufferReady := true } ∧
    exec .readAndClearBufferReady s = .next { s with bufferReady := false, ret := .bool s.bufferReady }

/-- 48 R424: an iteration with no event queued is one tick, and completes; so does one whose events are setup packets and
bus resets, on a ready engine, and one with completion notices too, where each notice finds what its handling reads
(`NoticeServable`). A Playing tick with a free buffer needs the volumes it looks up in the table (46 R379).
Rests on the spec's own decision D50 (one tick, after the events). A reply longer than `wLength` in one of the events is
cut to it, which is the model's choice (93 U1, log entry 7). So is all it says where `eventsLeft` is below
`MAX_EVENTS_PER_ITER`, that is where micro-steps have begun an iteration: R424 knows whole ones only, and the row ITERATE
begins another (log entry 8). -/
def Obligations.IterateCompletes : Prop :=
  (∀ s : State, s.fatal = none → s.evq = [] →
    exec .iterate s = exec .tick { s with eventsLeft := s.cfg.val.maxEventsPerIter }) ∧
  (∀ s : State, s.fatal = none → Inv s → UsbReady s → (∀ n d len, .bufferDone n d len ∉ s.evq) →
    (s.pstate = .playing → s.bufferReady = true → VolumesInTable s.chan) →
    ∃ t, exec .iterate s = .next t ∧ t.evq = s.evq.drop (s.evq.length - t.evq.length) ∧
      (t.fatal = none → t.evq.length = s.evq.length - s.cfg.val.maxEventsPerIter)) ∧
  (∀ s : State, s.fatal = none → Inv s → UsbReady s → BuffersPlaced s → CaptureHeld s →
    (∀ n d len, .bufferDone n d len ∈ s.evq → NoticeServable s n d len) →
    (s.pstate = .playing → s.bufferReady = true →
      VolumesInTable s.chan ∧ ∀ len, .bufferDone 0 .OUT len ∉ s.evq) →
    ∃ t, exec .iterate s = .next t ∧ t.evq = s.evq.drop (s.evq.length - t.evq.length) ∧
      (t.fatal = none → t.evq.length = s.evq.length - s.cfg.val.maxEventsPerIter))

/-! ## Ring buffer -/

/-- 44 R314, R318, R320, R322: what each ring operation returns and writes.
Rests on the spec's own decisions D1, D33, D35, D36. The bytes of grown storage are unspecified (R322): that none is
listed is the model's choice (log entry 11), and the name of the refusal of resize(0) is its own (93 U14, log entry
17). -/
def Obligations.RingOperations : Prop :=
  ∀ s : State, s.fatal = none → RingOk s.rb →
    (∀ (data : Bytes) (n : Nat), n ≤ data.length →
      let k := min n (s.rb.size - ringCount s.rb)
      ∃ t, exec (.ringWrite data n) s = .next t ∧ t = { s with
          ret := .count k, rb := { s.rb with
            storage := t.rb.storage, tail := (s.rb.tail + k) % s.rb.size
            fullFlag := s.rb.fullFlag || (decide (0 < k) && decide ((s.rb.tail + k) % s.rb.size = s.rb.head)) } } ∧
        (∀ j < k, t.rb.storage.read ((s.rb.tail + j) % s.rb.size) = data[j]?) ∧
        (∀ a, (∀ j < k, a ≠ (s.rb.tail + j) % s.rb.size) → t.rb.storage.read a = s.rb.storage.read a)) ∧
    (∀ n : Nat, RingFilled s.rb →
      let k := min n (ringCount s.rb)
      ∃ b : Bytes, b.length = k ∧ (∀ j < k, s.rb.storage.read ((s.rb.head + j) % s.rb.size) = b[j]?) ∧
        exec (.ringRead n) s = .next { s with
          ret := .bytes b k, rb := { s.rb with
            head := (s.rb.head + k) % s.rb.size, fullFlag := if 0 < k then false else s.rb.fullFlag } }) ∧
    (∃ q : Rat, exec .ringFillRatio s = .next { s with ret := .ratio q } ∧ q * s.rb.size = ringCount s.rb ∧
      0 ≤ q ∧ q ≤ 1) ∧
    (∀ n : Nat, exec (.ringResize n) s =
      if n = 0 then .refused .resizeZero
      else if n = s.rb.size then .next s
      else .next { s with rb := {
        storage := if s.rb.capacity < n then [] else s.rb.storage
        size := n, capacity := max s.rb.capacity n, head := 0, tail := 0, fullFlag := false } })

/-- 44 R324, R326: the ring buffer is a queue. A write appends the bytes it accepts, a read removes the oldest bytes
and returns them in order, a resize empties it unless the size is the same. -/
def Obligations.RingIsFifo : Prop :=
  ∀ s t : State, s.fatal = none → RingOk s.rb →
    (∀ data n, exec (.ringWrite data n) s = .next t → ∃ k, t.ret = .count k ∧ k ≤ s.rb.size - ringCount s.rb ∧
      ringContent t.rb = ringContent s.rb ++ (data.take k).map some) ∧
    (∀ n, exec (.ringRead n) s = .next t → ∃ b : Bytes, t.ret = .bytes b b.length ∧ b.length ≤ ringCount s.rb ∧
      ringContent s.rb = b.map some ++ ringContent t.rb) ∧
    (∀ n, exec (.ringResize n) s = .next t →
      ringContent t.rb = if n = s.rb.size then ringContent s.rb else [])

/-! ## Playback -/

/-- 45 R340 to R342, R346, R344 (no free buffer, underrun): the ticks that read no sample.
Rests on the spec's own decisions D1 (the thresholds as exact ratios) and D37 (a Playing tick measures `steadyFill`). -/
def Obligations.TicksWithoutMixing : Prop :=
  ∀ s : State, s.fatal = none →
    let count := ringCount s.rb
    (s.pstate = .stopped → exec .tick s = .next s ∧ exec .tickStopped s = .next s) ∧
    (s.pstate = .buffering →
      let t : State := if s.rb.size ≤ 2 * count then
          { s with pstate := .playing, outputRunning := true, trace := s.trace ++ [.drvStart, .drvUnmute] }
        else s
      exec .tick s = .next t ∧ exec .tickBuffering s = .next t) ∧
    (s.pstate = .stalled → exec .tick s = exec .tickStalled s ∧
      (2 * s.rb.size ≤ 5 * count → exec .tickStalled s = .next { s with pstate := .playing } ∧
        exec .tick s = .next { s with pstate := .playing }) ∧
      (5 * count < 2 * s.rb.size → s.bufferReady = false → exec .tickStalled s = .next s) ∧
      (5 * count < 2 * s.rb.size → s.bufferReady = true → ∀ f, s.format = some f →
        ∃ t, exec .tickStalled s = .next t ∧ t = { s with
            bufferReady := false, hwbuf := t.hwbuf
            trace := s.trace ++ [.drvWrite (List.replicate (s.periodBytes f) 0)] } ∧
          ∀ a, t.hwbuf.read a = if a < s.periodBytes f then some 0 else none)) ∧
    (s.pstate = .playing → exec .tick s = exec .tickPlaying s ∧
      (s.bufferReady = false → exec .tickPlaying s = .next s) ∧
      (s.bufferReady = true → 25 * count ≤ 4 * s.rb.size → ∀ f, s.format = some f →
        ∃ t, exec .tickPlaying s = .next t ∧ t = { s with
            bufferReady := false, steadyFill := (count : Rat) / (s.rb.size : Rat), pstate := .stalled, ledFast := true
            hwbuf := t.hwbuf
            trace := s.trace ++ [.drvWrite (List.replicate (s.periodBytes f) 0), .ledFast] } ∧
          ∀ a, t.hwbuf.read a = if a < s.periodBytes f then some 0 else none))

/-- 45 R344: a Playing tick above the underrun level, the volumes it looks up in the table (46 R379, R381), measures the
fill ratio, takes one period from the ring buffer, mixes it and writes exactly one period; what the mixer does not fill is
open (93 U9; free bytes, the model's choice, log entry 6).
Rests on the spec's own decisions D1, D37, D38. -/
def Obligations.PlayingTickMixesOnePeriod : Prop :=
  ∀ (s : State) (f : SampleFormat), s.fatal = none → s.pstate = .playing → s.bufferReady = true →
    s.format = some f → RingOk s.rb → RingFilled s.rb → 4 * s.rb.size < 25 * ringCount s.rb → VolumesInTable s.chan →
    ∃ (t : State) (b m u : Bytes), exec .tickPlaying s = .next t ∧ exec .tick s = .next t ∧
      b.length = min (s.periodBytes f) (ringCount s.rb) ∧ ringContent s.rb = b.map some ++ ringContent t.rb ∧
      exec (.mix f b) s = .next { s with ret := .bytes m m.length } ∧ (m ++ u).length = s.periodBytes f ∧
      t = { s with
        bufferReady := false, steadyFill := (ringCount s.rb : Rat) / (s.rb.size : Rat)
        rb := { s.rb with head := t.rb.head, fullFlag := t.rb.fullFlag }
        hwbuf := t.hwbuf, freeCount := s.freeCount + u.length, trace := s.trace ++ [.drvWrite (m ++ u)] } ∧
      ∀ a, t.hwbuf.read a = (m ++ u)[a]?

/-- 45 R336, R338, R350, 47 R402: starting and stopping the stream, and the callback that does it on an alternate
setting, arms the streaming endpoint and sends the first feedback value.
Rests on the spec's own decisions D28, D29, D36, D59. That no byte of grown ring storage is listed, and that the driver's
period after DrvConfigure stands in `nextPeriod` (10 R63), are the model's choice (log entries 11, 24). -/
def Obligations.StreamStartsAndStops : Prop :=
  ∀ s : State, s.fatal = none →
    exec .streamStop s = .next
      { s with outputRunning := false, pstate := .stopped, trace := s.trace ++ [.drvStop] } ∧
    (∀ f, let size := ringSizeOf s.cfg.val f s.sampleRate
      exec (.streamStart f) s = .next { s with
        outputRunning := false, format := some f, pstate := .buffering, periodFrames := s.nextPeriod
        rb := if size = s.rb.size then s.rb else
          { storage := if s.rb.capacity < size then [] else s.rb.storage
            size := size, capacity := max s.rb.capacity size, head := 0, tail := 0, fullFlag := false }
        trace := s.trace ++ [.drvStop, .drvConfigure (match f with | .s16 => 16 | .s24 => 24 | .s32 => 32)
          s.sampleRate] }) ∧
    exec (.setIfCallbackAsIf 0) s = .next { s with
      outputRunning := false, pstate := .stopped, trace := s.trace ++ [.drvStop], ret := .bool true } ∧
    (∀ a, a ≠ 0 → altFormat s.cfg.val a = none →
      exec (.setIfCallbackAsIf a) s = .next { s with ret := .bool false }) ∧
    (∀ a f, a ≠ 0 → altFormat s.cfg.val a = some f → BuffersFit s →
      let so := s.cfg.val.epStreamOut
      let fb := s.cfg.val.epFbIn
      let armsFb := (s.ep fb .IN).enabled = true ∧ 4 ≤ (s.ep fb .IN).maxPacketSize
      ∃ u t, exec (.streamStart f) s = .next u ∧ exec (.setIfCallbackAsIf a) s = .next t ∧
        t = { u with
          epOut := t.epOut, epIn := t.epIn, epbuf := t.epbuf, filtered := 1 / 2, ret := .bool true
          trace := u.trace
            ++ (if (s.ep so .OUT).enabled = true then
                [.hwArm so .OUT (s.ep so .OUT).maxPacketSize (s.ep so .OUT).nextToggleBit] else [])
            ++ (if armsFb then [.hwArm fb .IN 4 (s.ep fb .IN).nextToggleBit] else []) } ∧
        (∀ n d, t.ep n d =
          if n = so ∧ d = .OUT ∧ (s.ep n d).enabled = true then (s.ep n d).afterArm (s.ep n d).maxPacketSize
          else if n = fb ∧ d = .IN ∧ armsFb then (s.ep n d).afterArm 4
          else s.ep n d) ∧
        (armsFb → ∀ x, t.epbuf.read x = stored (s.ep fb .IN).bufferAddress (feedbackBytes u) s.epbuf.read x) ∧
        (¬armsFb → t.epbuf = s.epbuf))

/-- 45 R348, R352: a completed streaming packet is unpacked, appended to the ring buffer as far as it fits, measured
unless playing, and the endpoint armed again.
Rests on the spec's own decision D29. -/
def Obligations.IngressFillsTheRing : Prop :=
  (∀ (s : State) (b : Bytes), s.fatal = none → RingOk s.rb →
    ∃ t, exec (.onSamplesReceived b) s = .next t ∧
      t = { s with rb := t.rb, steadyFill := t.steadyFill } ∧
      ringContent t.rb = ringContent s.rb ++ (b.take (s.rb.size - ringCount s.rb)).map some ∧ t.rb.size = s.rb.size ∧
      t.steadyFill = if s.pstate = .playing then s.steadyFill else (ringCount t.rb : Rat) / (t.rb.size : Rat)) ∧
  (∀ (s : State) (len : Nat) (f : SampleFormat) (payload : Bytes), s.fatal = none → RingOk s.rb →
    s.format = some f →
    let so := s.cfg.val.epStreamOut
    (s.ep so .OUT).bufferAddress + len ≤ s.cfg.val.sharedCapacity →
    s.epbuf.readN (s.ep so .OUT).bufferAddress len = some payload →
    ∃ u t, exec (.onSamplesReceived (unpack f payload)) s = .next u ∧ exec (.streamOutDone len) s = .next t ∧
      (∀ n d, t.ep n d = if n = so ∧ d = .OUT ∧ (s.ep n d).enabled = true then
        (s.ep n d).afterArm (s.ep n d).maxPacketSize else s.ep n d) ∧
      t = { u with
        epOut := t.epOut, epIn := t.epIn
        trace := s.trace ++ if (s.ep so .OUT).enabled then
          [.hwArm so .OUT (s.ep so .OUT).maxPacketSize (s.ep so .OUT).nextToggleBit] else [] })

/-- 45 R354 to R357, 30 R140 to R142: Unpack keeps whole 32-bit words, and brings a 24-bit container down to its
sample.
Rests on the spec's own decisions D31, D32. -/
def Obligations.UnpackKeepsWholeWords : Prop :=
  ∀ (s : State) (p : Bytes), s.fatal = none →
    let whole : State := { s with ret := .bytes (p.take (p.length / 4 * 4)) (p.length / 4 * 4) }
    exec (.unpack .s16 p) s = .next whole ∧ exec (.unpack16 p) s = .next whole ∧
    exec (.unpack .s32 p) s = .next whole ∧ exec (.unpack32 p) s = .next whole ∧
    ∃ b : Bytes, exec (.unpack24 p) s = .next { s with ret := .bytes b b.length } ∧
      exec (.unpack .s24 p) s = .next { s with ret := .bytes b b.length } ∧ b.length = p.length / 4 * 4 ∧
      ∀ j < p.length / 4, ∃ w x y z : Byte,
        p[4 * j]? = some w ∧ p[4 * j + 1]? = some x ∧ p[4 * j + 2]? = some y ∧ p[4 * j + 3]? = some z ∧
        b[4 * j]? = some x ∧ b[4 * j + 1]? = some y ∧ b[4 * j + 2]? = some z ∧
        b[4 * j + 3]? = some (if z.getLsbD 7 then 0xFF else 0x00)

/-! ## Mixer and feedback -/

/-- 46 R376, R379 to R381: the gain of a stored volume by truncating division; a muted side has gain 0 and is not looked
up. A volume outside the table has no meaning and is refused (R379's assert, 00 R14, 93 U4).
Rests on the spec's own decision D40. -/
def Obligations.GainsAreLookedUp : Prop :=
  ∀ s : State, s.fatal = none →
    (∀ v : BitVec 16,
      (InTable v → ∃ g, exec (.lookup v) s = .next { s with ret := .gain g } ∧
        s.cfg.val.gainTable[(v.toInt.tdiv 256 + 96).toNat]? = some g ∧ g.toNat ≤ 2 ^ 31) ∧
      (¬InTable v → exec (.lookup v) s = .refused .volumeOutsideTable)) ∧
    (¬VolumesInTable s.chan → exec .gains s = .refused .volumeOutsideTable) ∧
    (VolumesInTable s.chan → ∃ gL gR gM, exec .gains s = .next { s with ret := .gains gL gR gM } ∧
      (s.chan.master.muted = true ∨ s.chan.left.muted = true → gL = 0) ∧
      (s.chan.master.muted = true ∨ s.chan.right.muted = true → gR = 0) ∧
      (s.chan.master.muted = false → s.chan.left.muted = false →
        exec (.lookup s.chan.left.volume) s = .next { s with ret := .gain gL }) ∧
      (s.chan.master.muted = false → s.chan.right.muted = false →
        exec (.lookup s.chan.right.volume) s = .next { s with ret := .gain gR }) ∧
      exec (.lookup s.chan.master.volume) s = .next { s with ret := .gain gM })

/-- 46 R383: Scale is two floored multiplications, attenuates only, and never lets a negative sample decay to 0 under
gains above 0. The value under a gain above 2^31, which R383's operands exclude, is the model's choice (log entry 30).
Rests on the spec's own decision D39. -/
def Obligations.ScaleAttenuates : Prop :=
  ∀ (s : State) (x : Int) (gC gM : BitVec 32), s.fatal = none →
    exec (.scale x gC gM) s = .next { s with ret := .int (scaled x gC.toNat gM.toNat) } ∧
    (gC.toNat ≤ 2 ^ 31 → gM.toNat ≤ 2 ^ 31 →
      (0 ≤ x → 0 ≤ scaled x gC.toNat gM.toNat ∧ scaled x gC.toNat gM.toNat ≤ x) ∧
      (x < 0 → x ≤ scaled x gC.toNat gM.toNat ∧ scaled x gC.toNat gM.toNat ≤ 0) ∧
      (x < 0 → 0 < gC.toNat → 0 < gM.toNat → scaled x gC.toNat gM.toNat ≤ -1)) ∧
    scaled x (2 ^ 31) (2 ^ 31) = x ∧ scaled x 0 gM.toNat = 0

/-- 46 R386 to R388: MixFrame scales the left and the right sample of a frame and cuts each to its word, which it fits
under gains of the table. The result under a gain above 2^31, which R383's operands exclude, is the model's choice (log
entry 30).
Rests on the spec's own decision D39. -/
def Obligations.MixFrameScalesBothSides : Prop :=
  ∀ (s : State) (gL gR gM : BitVec 32), s.fatal = none →
    (∀ a b c d : Byte, ∃ a' b' c' d' : Byte,
      let l := scaled (b ++ a : BitVec 16).toInt gL.toNat gM.toNat
      let r := scaled (d ++ c : BitVec 16).toInt gR.toNat gM.toNat
      exec (.mixFrame16 [a, b, c, d] gL gR gM) s = .next { s with ret := .bytes [a', b', c', d'] 4 } ∧
      (b' ++ a' : BitVec 16) = BitVec.ofInt 16 l ∧ (d' ++ c' : BitVec 16) = BitVec.ofInt 16 r ∧
      (gL.toNat ≤ 2 ^ 31 → gR.toNat ≤ 2 ^ 31 → gM.toNat ≤ 2 ^ 31 →
        (b' ++ a' : BitVec 16).toInt = l ∧ (d' ++ c' : BitVec 16).toInt = r)) ∧
    (∀ a b c d e f g h : Byte, ∃ a' b' c' d' e' f' g' h' : Byte,
      let l := scaled (d ++ c ++ b ++ a : BitVec 32).toInt gL.toNat gM.toNat
      let r := scaled (h ++ g ++ f ++ e : BitVec 32).toInt gR.toNat gM.toNat
      let t : State := { s with ret := .bytes [a', b', c', d', e', f', g', h'] 8 }
      exec (.mixFrame24 [a, b, c, d, e, f, g, h] gL gR gM) s = .next t ∧
      exec (.mixFrame32 [a, b, c, d, e, f, g, h] gL gR gM) s = .next t ∧
      (d' ++ c' ++ b' ++ a' : BitVec 32) = BitVec.ofInt 32 l ∧ (h' ++ g' ++ f' ++ e' : BitVec 32) = BitVec.ofInt 32 r ∧
      (gL.toNat ≤ 2 ^ 31 → gR.toNat ≤ 2 ^ 31 → gM.toNat ≤ 2 ^ 31 →
        (d' ++ c' ++ b' ++ a' : BitVec 32).toInt = l ∧ (h' ++ g' ++ f' ++ e' : BitVec 32).toInt = r))

/-- 46 R384, R390: where the volumes it looks up are in the table (R381: the master's always, a side's where it is not
muted), Mix maps every whole frame of its buffer with the gains of the call and drops the rest; a muted side comes out 0
whatever its volume; at volume 0 with nothing muted the whole frames stay as they are. -/
def Obligations.MixMapsFramesAndMutes : Prop :=
  ∀ (s : State) (f : SampleFormat) (b : Bytes), s.fatal = none → VolumesInTable s.chan →
    let F := match f with | .s16 => 4 | .s24 => 8 | .s32 => 8
    ∃ (m : Bytes) (gL gR gM : BitVec 32), exec (.mix f b) s = .next { s with ret := .bytes m m.length } ∧
      exec .gains s = .next { s with ret := .gains gL gR gM } ∧ m.length = b.length / F * F ∧
      (∀ j < b.length / F, let x := (b.drop (j * F)).take F
        exec (match f with
          | .s16 => .mixFrame16 x gL gR gM
          | .s24 => .mixFrame24 x gL gR gM
          | .s32 => .mixFrame32 x gL gR gM) s
          = .next { s with ret := .bytes ((m.drop (j * F)).take F) F }) ∧
      (s.chan.master.muted = true ∨ s.chan.left.muted = true →
        ∀ k < m.length, k % F < F / 2 → m[k]? = some 0) ∧
      (s.chan.master.muted = true ∨ s.chan.right.muted = true →
        ∀ k < m.length, F / 2 ≤ k % F → m[k]? = some 0) ∧
      ((∀ c, (s.channel c).muted = false ∧ (s.channel c).volume = 0) → m = b.take (b.length / F * F))

/-- 47 R402 to R405, 30 R143, R144: a feedback step updates the filter, and arms the reported rate as 16.16 fixed
point where the endpoint can carry it; where it cannot, the filter alone is updated. That the row FEEDBACK_IN_DONE is
FbStep without R426's test and clearing of `armed` is read from the opcode table (log entry 31).
Rests on the spec's own decisions D43 to D46, D59. -/
def Obligations.FeedbackReportsRate : Prop :=
  ∀ (s : State) (len : Nat), s.fatal = none →
    let fb := s.cfg.val.epFbIn
    ((s.ep fb .IN).enabled = false ∨ (s.ep fb .IN).maxPacketSize < 4 →
      exec .fbStep s = .next { s with filtered := filterStep s } ∧
      exec (.feedbackInDone len) s = .next { s with filtered := filterStep s }) ∧
    ((s.ep fb .IN).enabled = true → 4 ≤ (s.ep fb .IN).maxPacketSize →
      (s.ep fb .IN).bufferAddress + 4 ≤ s.cfg.val.sharedCapacity →
      ∃ t, exec .fbStep s = .next t ∧ exec (.feedbackInDone len) s = .next t ∧ t = { s with
          filtered := filterStep s, epIn := t.epIn, epbuf := t.epbuf
          trace := s.trace ++ [.hwArm fb .IN 4 (s.ep fb .IN).nextToggleBit] } ∧
        (∀ n d, t.ep n d = if n = fb ∧ d = .IN then (s.ep fb .IN).afterArm 4 else s.ep n d) ∧
        ∀ a, t.epbuf.read a = stored (s.ep fb .IN).bufferAddress (feedbackBytes s) s.epbuf.read a)

/-! ## Stops -/

/-- Operands and states outside a rule's domain, and the name each operation stops by there (93 U4, U21; 41 R210, R215,
R217, 43 R288, R292, 44 R314, 45 R340, 46 R379, R386 to R388, 20 R95). The names are the model's own (log entries 11, 17,
18). QueueAndFlagSteps says where a notice that breaks the hardware contract is refused, RingOperations where
resize(0) is. -/
def Obligations.OperandsOutsideTheirRuleStop : Prop :=
  ∀ s : State, s.fatal = none →
    (∀ buf len, buf.length < len → exec (.ctrlInStart buf len) s = .refused .shortBuffer) ∧
    (∀ data n, data.length < n → exec (.ringWrite data n) s = .refused .shortBuffer) ∧
    (∀ n buffer length, (s.ep n .IN).enabled = true → length ≤ (s.ep n .IN).maxPacketSize →
      (buffer.length < length → exec (.startTransfer n .IN buffer length) s = .refused .shortBuffer) ∧
      (length ≤ buffer.length → n ≠ 0 → 0 < length →
        s.cfg.val.sharedCapacity < (s.ep n .IN).bufferAddress + length →
        exec (.startTransfer n .IN buffer length) s = .fault (.outOfSpace .epbuf))) ∧
    (∀ e, layoutAt s (addrOf e) = none → exec (.enableEndpoint e) s = .refused .noLayout) ∧
    (∀ x gL gR gM, (x.length ≠ 4 → exec (.mixFrame16 x gL gR gM) s = .refused .notAFrame) ∧
      (x.length ≠ 8 → exec (.mixFrame24 x gL gR gM) s = .refused .notAFrame ∧
        exec (.mixFrame32 x gL gR gM) s = .refused .notAFrame)) ∧
    (∀ len, (s.ctrlPhase ≠ .dataIn → exec (.ep0InDoneData len) s = .refused .notSelected) ∧
      (s.ctrlPhase ≠ .statusIn → exec (.ep0InDoneStatus len) s = .refused .notSelected) ∧
      (s.ctrlPhase ≠ .dataOut → exec (.ep0OutDoneData len) s = .refused .notSelected) ∧
      (s.ctrlPhase = .dataOut → 64 < len → exec (.ep0OutDoneData len) s = .fault (.outOfSpace .ep0out)) ∧
      (s.ctrlPhase = .dataOut → len ≤ 64 → s.ep0out.readN 0 len = none →
        exec (.ep0OutDoneData len) s = .fault (.unwrittenByte .ep0out)) ∧
      (s.ctrlPhase = .dataOut → len ≤ 64 → s.ep0out.readN 0 len ≠ none → s.pendingOut = none →
        exec (.ep0OutDoneData len) s = .refused .noPendingOut)) ∧
    (s.pstate ≠ .stopped → exec .tickStopped s = .refused .notSelected) ∧
    (s.pstate ≠ .buffering → exec .tickBuffering s = .refused .notSelected) ∧
    (s.pstate ≠ .playing → exec .tickPlaying s = .refused .notSelected) ∧
    (s.pstate ≠ .stalled → exec .tickStalled s = .refused .notSelected) ∧
    (s.pstate = .playing → s.bufferReady = true → s.format = none → exec .tick s = .refused .noFormat) ∧
    (¬VolumesInTable s.chan →
      (∀ f b, exec (.mix f b) s = .refused .volumeOutsideTable) ∧
      (s.pstate = .playing → s.bufferReady = true → s.format ≠ none → RingOk s.rb → RingFilled s.rb →
        4 * s.rb.size < 25 * ringCount s.rb →
        exec .tickPlaying s = .refused .volumeOutsideTable ∧ exec .tick s = .refused .volumeOutsideTable))
end

