-- ==== Sys2Proof/Laws/State.lean ====
section
/-! SUPPORT. One lemma per field for each shared update of the state: what the update leaves as it was. -/

namespace Sys2Proof.Machine

/-! ## emit -/

@[simp] theorem emit_cfg (c : Cmd) (s : State) : (emit c s).cfg = s.cfg := rfl
@[simp] theorem emit_ctrlPhase (c : Cmd) (s : State) : (emit c s).ctrlPhase = s.ctrlPhase := rfl
@[simp] theorem emit_setup (c : Cmd) (s : State) : (emit c s).setup = s.setup := rfl
@[simp] theorem emit_cts (c : Cmd) (s : State) : (emit c s).cts = s.cts := rfl
@[simp] theorem emit_pendingOut (c : Cmd) (s : State) : (emit c s).pendingOut = s.pendingOut := rfl
@[simp] theorem emit_pendingAddress (c : Cmd) (s : State) : (emit c s).pendingAddress = s.pendingAddress := rfl
@[simp] theorem emit_addressPending (c : Cmd) (s : State) : (emit c s).addressPending = s.addressPending := rfl
@[simp] theorem emit_deviceAddress (c : Cmd) (s : State) : (emit c s).deviceAddress = s.deviceAddress := rfl
@[simp] theorem emit_activeConfig (c : Cmd) (s : State) : (emit c s).activeConfig = s.activeConfig := rfl
@[simp] theorem emit_altSetting (c : Cmd) (s : State) : (emit c s).altSetting = s.altSetting := rfl
@[simp] theorem emit_ep0Stalled (c : Cmd) (s : State) : (emit c s).ep0Stalled = s.ep0Stalled := rfl
@[simp] theorem emit_fatal (c : Cmd) (s : State) : (emit c s).fatal = s.fatal := rfl
@[simp] theorem emit_evq (c : Cmd) (s : State) : (emit c s).evq = s.evq := rfl
@[simp] theorem emit_epOut (c : Cmd) (s : State) : (emit c s).epOut = s.epOut := rfl
@[simp] theorem emit_epIn (c : Cmd) (s : State) : (emit c s).epIn = s.epIn := rfl
@[simp] theorem emit_bufLayout (c : Cmd) (s : State) : (emit c s).bufLayout = s.bufLayout := rfl
@[simp] theorem emit_chan (c : Cmd) (s : State) : (emit c s).chan = s.chan := rfl
@[simp] theorem emit_sampleRate (c : Cmd) (s : State) : (emit c s).sampleRate = s.sampleRate := rfl
@[simp] theorem emit_format (c : Cmd) (s : State) : (emit c s).format = s.format := rfl
@[simp] theorem emit_rb (c : Cmd) (s : State) : (emit c s).rb = s.rb := rfl
@[simp] theorem emit_pstate (c : Cmd) (s : State) : (emit c s).pstate = s.pstate := rfl
@[simp] theorem emit_steadyFill (c : Cmd) (s : State) : (emit c s).steadyFill = s.steadyFill := rfl
@[simp] theorem emit_filtered (c : Cmd) (s : State) : (emit c s).filtered = s.filtered := rfl
@[simp] theorem emit_bufferReady (c : Cmd) (s : State) : (emit c s).bufferReady = s.bufferReady := rfl
@[simp] theorem emit_outputRunning (c : Cmd) (s : State) : (emit c s).outputRunning = s.outputRunning := rfl
@[simp] theorem emit_ledFast (c : Cmd) (s : State) : (emit c s).ledFast = s.ledFast := rfl
@[simp] theorem emit_periodFrames (c : Cmd) (s : State) : (emit c s).periodFrames = s.periodFrames := rfl
@[simp] theorem emit_epbuf (c : Cmd) (s : State) : (emit c s).epbuf = s.epbuf := rfl
@[simp] theorem emit_ep0in (c : Cmd) (s : State) : (emit c s).ep0in = s.ep0in := rfl
@[simp] theorem emit_ep0out (c : Cmd) (s : State) : (emit c s).ep0out = s.ep0out := rfl
@[simp] theorem emit_hwbuf (c : Cmd) (s : State) : (emit c s).hwbuf = s.hwbuf := rfl
@[simp] theorem emit_schedule (c : Cmd) (s : State) : (emit c s).schedule = s.schedule := rfl
@[simp] theorem emit_nextPeriod (c : Cmd) (s : State) : (emit c s).nextPeriod = s.nextPeriod := rfl
@[simp] theorem emit_eventsLeft (c : Cmd) (s : State) : (emit c s).eventsLeft = s.eventsLeft := rfl
@[simp] theorem emit_ret (c : Cmd) (s : State) : (emit c s).ret = s.ret := rfl
@[simp] theorem emit_freeCount (c : Cmd) (s : State) : (emit c s).freeCount = s.freeCount := rfl
@[simp] theorem emit_trace (c : Cmd) (s : State) : (emit c s).trace = s.trace ++ [c] := rfl

/-! ## setEp -/

@[simp] theorem setEp_cfg (s : State) (n : Fin 16) (d : Dir) (r : EpRecord) : (s.setEp n d r).cfg = s.cfg := by cases d <;> rfl
@[simp] theorem setEp_ctrlPhase (s : State) (n : Fin 16) (d : Dir) (r : EpRecord) : (s.setEp n d r).ctrlPhase = s.ctrlPhase := by cases d <;> rfl
@[simp] theorem setEp_setup (s : State) (n : Fin 16) (d : Dir) (r : EpRecord) : (s.setEp n d r).setup = s.setup := by cases d <;> rfl
@[simp] theorem setEp_cts (s : State) (n : Fin 16) (d : Dir) (r : EpRecord) : (s.setEp n d r).cts = s.cts := by cases d <;> rfl
@[simp] theorem setEp_pendingOut (s : State) (n : Fin 16) (d : Dir) (r : EpRecord) : (s.setEp n d r).pendingOut = s.pendingOut := by cases d <;> rfl
@[simp] theorem setEp_pendingAddress (s : State) (n : Fin 16) (d : Dir) (r : EpRecord) : (s.setEp n d r).pendingAddress = s.pendingAddress := by cases d <;> rfl
@[simp] theorem setEp_addressPending (s : State) (n : Fin 16) (d : Dir) (r : EpRecord) : (s.setEp n d r).addressPending = s.addressPending := by cases d <;> rfl
@[simp] theorem setEp_deviceAddress (s : State) (n : Fin 16) (d : Dir) (r : EpRecord) : (s.setEp n d r).deviceAddress = s.deviceAddress := by cases d <;> rfl
@[simp] theorem setEp_activeConfig (s : State) (n : Fin 16) (d : Dir) (r : EpRecord) : (s.setEp n d r).activeConfig = s.activeConfig := by cases d <;> rfl
@[simp] theorem setEp_altSetting (s : State) (n : Fin 16) (d : Dir) (r : EpRecord) : (s.setEp n d r).altSetting = s.altSetting := by cases d <;> rfl
@[simp] theorem setEp_ep0Stalled (s : State) (n : Fin 16) (d : Dir) (r : EpRecord) : (s.setEp n d r).ep0Stalled = s.ep0Stalled := by cases d <;> rfl
@[simp] theorem setEp_fatal (s : State) (n : Fin 16) (d : Dir) (r : EpRecord) : (s.setEp n d r).fatal = s.fatal := by cases d <;> rfl
@[simp] theorem setEp_evq (s : State) (n : Fin 16) (d : Dir) (r : EpRecord) : (s.setEp n d r).evq = s.evq := by cases d <;> rfl
@[simp] theorem setEp_bufLayout (s : State) (n : Fin 16) (d : Dir) (r : EpRecord) : (s.setEp n d r).bufLayout = s.bufLayout := by cases d <;> rfl
@[simp] theorem setEp_chan (s : State) (n : Fin 16) (d : Dir) (r : EpRecord) : (s.setEp n d r).chan = s.chan := by cases d <;> rfl
@[simp] theorem setEp_sampleRate (s : State) (n : Fin 16) (d : Dir) (r : EpRecord) : (s.setEp n d r).sampleRate = s.sampleRate := by cases d <;> rfl
@[simp] theorem setEp_format (s : State) (n : Fin 16) (d : Dir) (r : EpRecord) : (s.setEp n d r).format = s.format := by cases d <;> rfl
@[simp] theorem setEp_rb (s : State) (n : Fin 16) (d : Dir) (r : EpRecord) : (s.setEp n d r).rb = s.rb := by cases d <;> rfl
@[simp] theorem setEp_pstate (s : State) (n : Fin 16) (d : Dir) (r : EpRecord) : (s.setEp n d r).pstate = s.pstate := by cases d <;> rfl
@[simp] theorem setEp_steadyFill (s : State) (n : Fin 16) (d : Dir) (r : EpRecord) : (s.setEp n d r).steadyFill = s.steadyFill := by cases d <;> rfl
@[simp] theorem setEp_filtered (s : State) (n : Fin 16) (d : Dir) (r : EpRecord) : (s.setEp n d r).filtered = s.filtered := by cases d <;> rfl
@[simp] theorem setEp_bufferReady (s : State) (n : Fin 16) (d : Dir) (r : EpRecord) : (s.setEp n d r).bufferReady = s.bufferReady := by cases d <;> rfl
@[simp] theorem setEp_outputRunning (s : State) (n : Fin 16) (d : Dir) (r : EpRecord) : (s.setEp n d r).outputRunning = s.outputRunning := by cases d <;> rfl
@[simp] theorem setEp_ledFast (s : State) (n : Fin 16) (d : Dir) (r : EpRecord) : (s.setEp n d r).ledFast = s.ledFast := by cases d <;> rfl
@[simp] theorem setEp_periodFrames (s : State) (n : Fin 16) (d : Dir) (r : EpRecord) : (s.setEp n d r).periodFrames = s.periodFrames := by cases d <;> rfl
@[simp] theorem setEp_epbuf (s : State) (n : Fin 16) (d : Dir) (r : EpRecord) : (s.setEp n d r).epbuf = s.epbuf := by cases d <;> rfl
@[simp] theorem setEp_ep0in (s : State) (n : Fin 16) (d : Dir) (r : EpRecord) : (s.setEp n d r).ep0in = s.ep0in := by cases d <;> rfl
@[simp] theorem setEp_ep0out (s : State) (n : Fin 16) (d : Dir) (r : EpRecord) : (s.setEp n d r).ep0out = s.ep0out := by cases d <;> rfl
@[simp] theorem setEp_hwbuf (s : State) (n : Fin 16) (d : Dir) (r : EpRecord) : (s.setEp n d r).hwbuf = s.hwbuf := by cases d <;> rfl
@[simp] theorem setEp_trace (s : State) (n : Fin 16) (d : Dir) (r : EpRecord) : (s.setEp n d r).trace = s.trace := by cases d <;> rfl
@[simp] theorem setEp_schedule (s : State) (n : Fin 16) (d : Dir) (r : EpRecord) : (s.setEp n d r).schedule = s.schedule := by cases d <;> rfl
@[simp] theorem setEp_nextPeriod (s : State) (n : Fin 16) (d : Dir) (r : EpRecord) : (s.setEp n d r).nextPeriod = s.nextPeriod := by cases d <;> rfl
@[simp] theorem setEp_eventsLeft (s : State) (n : Fin 16) (d : Dir) (r : EpRecord) : (s.setEp n d r).eventsLeft = s.eventsLeft := by cases d <;> rfl
@[simp] theorem setEp_ret (s : State) (n : Fin 16) (d : Dir) (r : EpRecord) : (s.setEp n d r).ret = s.ret := by cases d <;> rfl
@[simp] theorem setEp_freeCount (s : State) (n : Fin 16) (d : Dir) (r : EpRecord) : (s.setEp n d r).freeCount = s.freeCount := by cases d <;> rfl

/-! ## disarm -/

@[simp] theorem disarm_cfg (s : State) (n : Fin 16) (d : Dir) : (s.disarm n d).cfg = s.cfg := by cases d <;> rfl
@[simp] theorem disarm_ctrlPhase (s : State) (n : Fin 16) (d : Dir) : (s.disarm n d).ctrlPhase = s.ctrlPhase := by cases d <;> rfl
@[simp] theorem disarm_setup (s : State) (n : Fin 16) (d : Dir) : (s.disarm n d).setup = s.setup := by cases d <;> rfl
@[simp] theorem disarm_cts (s : State) (n : Fin 16) (d : Dir) : (s.disarm n d).cts = s.cts := by cases d <;> rfl
@[simp] theorem disarm_pendingOut (s : State) (n : Fin 16) (d : Dir) : (s.disarm n d).pendingOut = s.pendingOut := by cases d <;> rfl
@[simp] theorem disarm_pendingAddress (s : State) (n : Fin 16) (d : Dir) : (s.disarm n d).pendingAddress = s.pendingAddress := by cases d <;> rfl
@[simp] theorem disarm_addressPending (s : State) (n : Fin 16) (d : Dir) : (s.disarm n d).addressPending = s.addressPending := by cases d <;> rfl
@[simp] theorem disarm_deviceAddress (s : State) (n : Fin 16) (d : Dir) : (s.disarm n d).deviceAddress = s.deviceAddress := by cases d <;> rfl
@[simp] theorem disarm_activeConfig (s : State) (n : Fin 16) (d : Dir) : (s.disarm n d).activeConfig = s.activeConfig := by cases d <;> rfl
@[simp] theorem disarm_altSetting (s : State) (n : Fin 16) (d : Dir) : (s.disarm n d).altSetting = s.altSetting := by cases d <;> rfl
@[simp] theorem disarm_ep0Stalled (s : State) (n : Fin 16) (d : Dir) : (s.disarm n d).ep0Stalled = s.ep0Stalled := by cases d <;> rfl
@[simp] theorem disarm_fatal (s : State) (n : Fin 16) (d : Dir) : (s.disarm n d).fatal = s.fatal := by cases d <;> rfl
@[simp] theorem disarm_evq (s : State) (n : Fin 16) (d : Dir) : (s.disarm n d).evq = s.evq := by cases d <;> rfl
@[simp] theorem disarm_bufLayout (s : State) (n : Fin 16) (d : Dir) : (s.disarm n d).bufLayout = s.bufLayout := by cases d <;> rfl
@[simp] theorem disarm_chan (s : State) (n : Fin 16) (d : Dir) : (s.disarm n d).chan = s.chan := by cases d <;> rfl
@[simp] theorem disarm_sampleRate (s : State) (n : Fin 16) (d : Dir) : (s.disarm n d).sampleRate = s.sampleRate := by cases d <;> rfl
@[simp] theorem disarm_format (s : State) (n : Fin 16) (d : Dir) : (s.disarm n d).format = s.format := by cases d <;> rfl
@[simp] theorem disarm_rb (s : State) (n : Fin 16) (d : Dir) : (s.disarm n d).rb = s.rb := by cases d <;> rfl
@[simp] theorem disarm_pstate (s : State) (n : Fin 16) (d : Dir) : (s.disarm n d).pstate = s.pstate := by cases d <;> rfl
@[simp] theorem disarm_steadyFill (s : State) (n : Fin 16) (d : Dir) : (s.disarm n d).steadyFill = s.steadyFill := by cases d <;> rfl
@[simp] theorem disarm_filtered (s : State) (n : Fin 16) (d : Dir) : (s.disarm n d).filtered = s.filtered := by cases d <;> rfl
@[simp] theorem disarm_bufferReady (s : State) (n : Fin 16) (d : Dir) : (s.disarm n d).bufferReady = s.bufferReady := by cases d <;> rfl
@[simp] theorem disarm_outputRunning (s : State) (n : Fin 16) (d : Dir) : (s.disarm n d).outputRunning = s.outputRunning := by cases d <;> rfl
@[simp] theorem disarm_ledFast (s : State) (n : Fin 16) (d : Dir) : (s.disarm n d).ledFast = s.ledFast := by cases d <;> rfl
@[simp] theorem disarm_periodFrames (s : State) (n : Fin 16) (d : Dir) : (s.disarm n d).periodFrames = s.periodFrames := by cases d <;> rfl
@[simp] theorem disarm_epbuf (s : State) (n : Fin 16) (d : Dir) : (s.disarm n d).epbuf = s.epbuf := by cases d <;> rfl
@[simp] theorem disarm_ep0in (s : State) (n : Fin 16) (d : Dir) : (s.disarm n d).ep0in = s.ep0in := by cases d <;> rfl
@[simp] theorem disarm_ep0out (s : State) (n : Fin 16) (d : Dir) : (s.disarm n d).ep0out = s.ep0out := by cases d <;> rfl
@[simp] theorem disarm_hwbuf (s : State) (n : Fin 16) (d : Dir) : (s.disarm n d).hwbuf = s.hwbuf := by cases d <;> rfl
@[simp] theorem disarm_trace (s : State) (n : Fin 16) (d : Dir) : (s.disarm n d).trace = s.trace := by cases d <;> rfl
@[simp] theorem disarm_schedule (s : State) (n : Fin 16) (d : Dir) : (s.disarm n d).schedule = s.schedule := by cases d <;> rfl
@[simp] theorem disarm_nextPeriod (s : State) (n : Fin 16) (d : Dir) : (s.disarm n d).nextPeriod = s.nextPeriod := by cases d <;> rfl
@[simp] theorem disarm_eventsLeft (s : State) (n : Fin 16) (d : Dir) : (s.disarm n d).eventsLeft = s.eventsLeft := by cases d <;> rfl
@[simp] theorem disarm_ret (s : State) (n : Fin 16) (d : Dir) : (s.disarm n d).ret = s.ret := by cases d <;> rfl
@[simp] theorem disarm_freeCount (s : State) (n : Fin 16) (d : Dir) : (s.disarm n d).freeCount = s.freeCount := by cases d <;> rfl

/-! ## setToggle -/

@[simp] theorem setToggle_cfg (s : State) (n : Fin 16) (d : Dir) (p : Pid) : (s.setToggle n d p).cfg = s.cfg := by cases d <;> rfl
@[simp] theorem setToggle_ctrlPhase (s : State) (n : Fin 16) (d : Dir) (p : Pid) : (s.setToggle n d p).ctrlPhase = s.ctrlPhase := by cases d <;> rfl
@[simp] theorem setToggle_setup (s : State) (n : Fin 16) (d : Dir) (p : Pid) : (s.setToggle n d p).setup = s.setup := by cases d <;> rfl
@[simp] theorem setToggle_cts (s : State) (n : Fin 16) (d : Dir) (p : Pid) : (s.setToggle n d p).cts = s.cts := by cases d <;> rfl
@[simp] theorem setToggle_pendingOut (s : State) (n : Fin 16) (d : Dir) (p : Pid) : (s.setToggle n d p).pendingOut = s.pendingOut := by cases d <;> rfl
@[simp] theorem setToggle_pendingAddress (s : State) (n : Fin 16) (d : Dir) (p : Pid) : (s.setToggle n d p).pendingAddress = s.pendingAddress := by cases d <;> rfl
@[simp] theorem setToggle_addressPending (s : State) (n : Fin 16) (d : Dir) (p : Pid) : (s.setToggle n d p).addressPending = s.addressPending := by cases d <;> rfl
@[simp] theorem setToggle_deviceAddress (s : State) (n : Fin 16) (d : Dir) (p : Pid) : (s.setToggle n d p).deviceAddress = s.deviceAddress := by cases d <;> rfl
@[simp] theorem setToggle_activeConfig (s : State) (n : Fin 16) (d : Dir) (p : Pid) : (s.setToggle n d p).activeConfig = s.activeConfig := by cases d <;> rfl
@[simp] theorem setToggle_altSetting (s : State) (n : Fin 16) (d : Dir) (p : Pid) : (s.setToggle n d p).altSetting = s.altSetting := by cases d <;> rfl
@[simp] theorem setToggle_ep0Stalled (s : State) (n : Fin 16) (d : Dir) (p : Pid) : (s.setToggle n d p).ep0Stalled = s.ep0Stalled := by cases d <;> rfl
@[simp] theorem setToggle_fatal (s : State) (n : Fin 16) (d : Dir) (p : Pid) : (s.setToggle n d p).fatal = s.fatal := by cases d <;> rfl
@[simp] theorem setToggle_evq (s : State) (n : Fin 16) (d : Dir) (p : Pid) : (s.setToggle n d p).evq = s.evq := by cases d <;> rfl
@[simp] theorem setToggle_bufLayout (s : State) (n : Fin 16) (d : Dir) (p : Pid) : (s.setToggle n d p).bufLayout = s.bufLayout := by cases d <;> rfl
@[simp] theorem setToggle_chan (s : State) (n : Fin 16) (d : Dir) (p : Pid) : (s.setToggle n d p).chan = s.chan := by cases d <;> rfl
@[simp] theorem setToggle_sampleRate (s : State) (n : Fin 16) (d : Dir) (p : Pid) : (s.setToggle n d p).sampleRate = s.sampleRate := by cases d <;> rfl
@[simp] theorem setToggle_format (s : State) (n : Fin 16) (d : Dir) (p : Pid) : (s.setToggle n d p).format = s.format := by cases d <;> rfl
@[simp] theorem setToggle_rb (s : State) (n : Fin 16) (d : Dir) (p : Pid) : (s.setToggle n d p).rb = s.rb := by cases d <;> rfl
@[simp] theorem setToggle_pstate (s : State) (n : Fin 16) (d : Dir) (p : Pid) : (s.setToggle n d p).pstate = s.pstate := by cases d <;> rfl
@[simp] theorem setToggle_steadyFill (s : State) (n : Fin 16) (d : Dir) (p : Pid) : (s.setToggle n d p).steadyFill = s.steadyFill := by cases d <;> rfl
@[simp] theorem setToggle_filtered (s : State) (n : Fin 16) (d : Dir) (p : Pid) : (s.setToggle n d p).filtered = s.filtered := by cases d <;> rfl
@[simp] theorem setToggle_bufferReady (s : State) (n : Fin 16) (d : Dir) (p : Pid) : (s.setToggle n d p).bufferReady = s.bufferReady := by cases d <;> rfl
@[simp] theorem setToggle_outputRunning (s : State) (n : Fin 16) (d : Dir) (p : Pid) : (s.setToggle n d p).outputRunning = s.outputRunning := by cases d <;> rfl
@[simp] theorem setToggle_ledFast (s : State) (n : Fin 16) (d : Dir) (p : Pid) : (s.setToggle n d p).ledFast = s.ledFast := by cases d <;> rfl
@[simp] theorem setToggle_periodFrames (s : State) (n : Fin 16) (d : Dir) (p : Pid) : (s.setToggle n d p).periodFrames = s.periodFrames := by cases d <;> rfl
@[simp] theorem setToggle_epbuf (s : State) (n : Fin 16) (d : Dir) (p : Pid) : (s.setToggle n d p).epbuf = s.epbuf := by cases d <;> rfl
@[simp] theorem setToggle_ep0in (s : State) (n : Fin 16) (d : Dir) (p : Pid) : (s.setToggle n d p).ep0in = s.ep0in := by cases d <;> rfl
@[simp] theorem setToggle_ep0out (s : State) (n : Fin 16) (d : Dir) (p : Pid) : (s.setToggle n d p).ep0out = s.ep0out := by cases d <;> rfl
@[simp] theorem setToggle_hwbuf (s : State) (n : Fin 16) (d : Dir) (p : Pid) : (s.setToggle n d p).hwbuf = s.hwbuf := by cases d <;> rfl
@[simp] theorem setToggle_trace (s : State) (n : Fin 16) (d : Dir) (p : Pid) : (s.setToggle n d p).trace = s.trace := by cases d <;> rfl
@[simp] theorem setToggle_schedule (s : State) (n : Fin 16) (d : Dir) (p : Pid) : (s.setToggle n d p).schedule = s.schedule := by cases d <;> rfl
@[simp] theorem setToggle_nextPeriod (s : State) (n : Fin 16) (d : Dir) (p : Pid) : (s.setToggle n d p).nextPeriod = s.nextPeriod := by cases d <;> rfl
@[simp] theorem setToggle_eventsLeft (s : State) (n : Fin 16) (d : Dir) (p : Pid) : (s.setToggle n d p).eventsLeft = s.eventsLeft := by cases d <;> rfl
@[simp] theorem setToggle_ret (s : State) (n : Fin 16) (d : Dir) (p : Pid) : (s.setToggle n d p).ret = s.ret := by cases d <;> rfl
@[simp] theorem setToggle_freeCount (s : State) (n : Fin 16) (d : Dir) (p : Pid) : (s.setToggle n d p).freeCount = s.freeCount := by cases d <;> rfl

/-! ## setChannel -/

@[simp] theorem setChannel_cfg (s : State) (c : Chan) (x : ChannelControl) : (s.setChannel c x).cfg = s.cfg := by cases c <;> rfl
@[simp] theorem setChannel_ctrlPhase (s : State) (c : Chan) (x : ChannelControl) : (s.setChannel c x).ctrlPhase = s.ctrlPhase := by cases c <;> rfl
@[simp] theorem setChannel_setup (s : State) (c : Chan) (x : ChannelControl) : (s.setChannel c x).setup = s.setup := by cases c <;> rfl
@[simp] theorem setChannel_cts (s : State) (c : Chan) (x : ChannelControl) : (s.setChannel c x).cts = s.cts := by cases c <;> rfl
@[simp] theorem setChannel_pendingOut (s : State) (c : Chan) (x : ChannelControl) : (s.setChannel c x).pendingOut = s.pendingOut := by cases c <;> rfl
@[simp] theorem setChannel_pendingAddress (s : State) (c : Chan) (x : ChannelControl) : (s.setChannel c x).pendingAddress = s.pendingAddress := by cases c <;> rfl
@[simp] theorem setChannel_addressPending (s : State) (c : Chan) (x : ChannelControl) : (s.setChannel c x).addressPending = s.addressPending := by cases c <;> rfl
@[simp] theorem setChannel_deviceAddress (s : State) (c : Chan) (x : ChannelControl) : (s.setChannel c x).deviceAddress = s.deviceAddress := by cases c <;> rfl
@[simp] theorem setChannel_activeConfig (s : State) (c : Chan) (x : ChannelControl) : (s.setChannel c x).activeConfig = s.activeConfig := by cases c <;> rfl
@[simp] theorem setChannel_altSetting (s : State) (c : Chan) (x : ChannelControl) : (s.setChannel c x).altSetting = s.altSetting := by cases c <;> rfl
@[simp] theorem setChannel_ep0Stalled (s : State) (c : Chan) (x : ChannelControl) : (s.setChannel c x).ep0Stalled = s.ep0Stalled := by cases c <;> rfl
@[simp] theorem setChannel_fatal (s : State) (c : Chan) (x : ChannelControl) : (s.setChannel c x).fatal = s.fatal := by cases c <;> rfl
@[simp] theorem setChannel_evq (s : State) (c : Chan) (x : ChannelControl) : (s.setChannel c x).evq = s.evq := by cases c <;> rfl
@[simp] theorem setChannel_epOut (s : State) (c : Chan) (x : ChannelControl) : (s.setChannel c x).epOut = s.epOut := by cases c <;> rfl
@[simp] theorem setChannel_epIn (s : State) (c : Chan) (x : ChannelControl) : (s.setChannel c x).epIn = s.epIn := by cases c <;> rfl
@[simp] theorem setChannel_bufLayout (s : State) (c : Chan) (x : ChannelControl) : (s.setChannel c x).bufLayout = s.bufLayout := by cases c <;> rfl
@[simp] theorem setChannel_sampleRate (s : State) (c : Chan) (x : ChannelControl) : (s.setChannel c x).sampleRate = s.sampleRate := by cases c <;> rfl
@[simp] theorem setChannel_format (s : State) (c : Chan) (x : ChannelControl) : (s.setChannel c x).format = s.format := by cases c <;> rfl
@[simp] theorem setChannel_rb (s : State) (c : Chan) (x : ChannelControl) : (s.setChannel c x).rb = s.rb := by cases c <;> rfl
@[simp] theorem setChannel_pstate (s : State) (c : Chan) (x : ChannelControl) : (s.setChannel c x).pstate = s.pstate := by cases c <;> rfl
@[simp] theorem setChannel_steadyFill (s : State) (c : Chan) (x : ChannelControl) : (s.setChannel c x).steadyFill = s.steadyFill := by cases c <;> rfl
@[simp] theorem setChannel_filtered (s : State) (c : Chan) (x : ChannelControl) : (s.setChannel c x).filtered = s.filtered := by cases c <;> rfl
@[simp] theorem setChannel_bufferReady (s : State) (c : Chan) (x : ChannelControl) : (s.setChannel c x).bufferReady = s.bufferReady := by cases c <;> rfl
@[simp] theorem setChannel_outputRunning (s : State) (c : Chan) (x : ChannelControl) : (s.setChannel c x).outputRunning = s.outputRunning := by cases c <;> rfl
@[simp] theorem setChannel_ledFast (s : State) (c : Chan) (x : ChannelControl) : (s.setChannel c x).ledFast = s.ledFast := by cases c <;> rfl
@[simp] theorem setChannel_periodFrames (s : State) (c : Chan) (x : ChannelControl) : (s.setChannel c x).periodFrames = s.periodFrames := by cases c <;> rfl
@[simp] theorem setChannel_epbuf (s : State) (c : Chan) (x : ChannelControl) : (s.setChannel c x).epbuf = s.epbuf := by cases c <;> rfl
@[simp] theorem setChannel_ep0in (s : State) (c : Chan) (x : ChannelControl) : (s.setChannel c x).ep0in = s.ep0in := by cases c <;> rfl
@[simp] theorem setChannel_ep0out (s : State) (c : Chan) (x : ChannelControl) : (s.setChannel c x).ep0out = s.ep0out := by cases c <;> rfl
@[simp] theorem setChannel_hwbuf (s : State) (c : Chan) (x : ChannelControl) : (s.setChannel c x).hwbuf = s.hwbuf := by cases c <;> rfl
@[simp] theorem setChannel_trace (s : State) (c : Chan) (x : ChannelControl) : (s.setChannel c x).trace = s.trace := by cases c <;> rfl
@[simp] theorem setChannel_schedule (s : State) (c : Chan) (x : ChannelControl) : (s.setChannel c x).schedule = s.schedule := by cases c <;> rfl
@[simp] theorem setChannel_nextPeriod (s : State) (c : Chan) (x : ChannelControl) : (s.setChannel c x).nextPeriod = s.nextPeriod := by cases c <;> rfl
@[simp] theorem setChannel_eventsLeft (s : State) (c : Chan) (x : ChannelControl) : (s.setChannel c x).eventsLeft = s.eventsLeft := by cases c <;> rfl
@[simp] theorem setChannel_ret (s : State) (c : Chan) (x : ChannelControl) : (s.setChannel c x).ret = s.ret := by cases c <;> rfl
@[simp] theorem setChannel_freeCount (s : State) (c : Chan) (x : ChannelControl) : (s.setChannel c x).freeCount = s.freeCount := by cases c <;> rfl

/-! ## setMem -/

@[simp] theorem setMem_cfg (s : State) (sp : Space) (m : Memory) : (s.setMem sp m).cfg = s.cfg := by cases sp <;> rfl
@[simp] theorem setMem_ctrlPhase (s : State) (sp : Space) (m : Memory) : (s.setMem sp m).ctrlPhase = s.ctrlPhase := by cases sp <;> rfl
@[simp] theorem setMem_setup (s : State) (sp : Space) (m : Memory) : (s.setMem sp m).setup = s.setup := by cases sp <;> rfl
@[simp] theorem setMem_cts (s : State) (sp : Space) (m : Memory) : (s.setMem sp m).cts = s.cts := by cases sp <;> rfl
@[simp] theorem setMem_pendingOut (s : State) (sp : Space) (m : Memory) : (s.setMem sp m).pendingOut = s.pendingOut := by cases sp <;> rfl
@[simp] theorem setMem_pendingAddress (s : State) (sp : Space) (m : Memory) : (s.setMem sp m).pendingAddress = s.pendingAddress := by cases sp <;> rfl
@[simp] theorem setMem_addressPending (s : State) (sp : Space) (m : Memory) : (s.setMem sp m).addressPending = s.addressPending := by cases sp <;> rfl
@[simp] theorem setMem_deviceAddress (s : State) (sp : Space) (m : Memory) : (s.setMem sp m).deviceAddress = s.deviceAddress := by cases sp <;> rfl
@[simp] theorem setMem_activeConfig (s : State) (sp : Space) (m : Memory) : (s.setMem sp m).activeConfig = s.activeConfig := by cases sp <;> rfl
@[simp] theorem setMem_altSetting (s : State) (sp : Space) (m : Memory) : (s.setMem sp m).altSetting = s.altSetting := by cases sp <;> rfl
@[simp] theorem setMem_ep0Stalled (s : State) (sp : Space) (m : Memory) : (s.setMem sp m).ep0Stalled = s.ep0Stalled := by cases sp <;> rfl
@[simp] theorem setMem_fatal (s : State) (sp : Space) (m : Memory) : (s.setMem sp m).fatal = s.fatal := by cases sp <;> rfl
@[simp] theorem setMem_evq (s : State) (sp : Space) (m : Memory) : (s.setMem sp m).evq = s.evq := by cases sp <;> rfl
@[simp] theorem setMem_epOut (s : State) (sp : Space) (m : Memory) : (s.setMem sp m).epOut = s.epOut := by cases sp <;> rfl
@[simp] theorem setMem_epIn (s : State) (sp : Space) (m : Memory) : (s.setMem sp m).epIn = s.epIn := by cases sp <;> rfl
@[simp] theorem setMem_bufLayout (s : State) (sp : Space) (m : Memory) : (s.setMem sp m).bufLayout = s.bufLayout := by cases sp <;> rfl
@[simp] theorem setMem_chan (s : State) (sp : Space) (m : Memory) : (s.setMem sp m).chan = s.chan := by cases sp <;> rfl
@[simp] theorem setMem_sampleRate (s : State) (sp : Space) (m : Memory) : (s.setMem sp m).sampleRate = s.sampleRate := by cases sp <;> rfl
@[simp] theorem setMem_format (s : State) (sp : Space) (m : Memory) : (s.setMem sp m).format = s.format := by cases sp <;> rfl
@[simp] theorem setMem_pstate (s : State) (sp : Space) (m : Memory) : (s.setMem sp m).pstate = s.pstate := by cases sp <;> rfl
@[simp] theorem setMem_steadyFill (s : State) (sp : Space) (m : Memory) : (s.setMem sp m).steadyFill = s.steadyFill := by cases sp <;> rfl
@[simp] theorem setMem_filtered (s : State) (sp : Space) (m : Memory) : (s.setMem sp m).filtered = s.filtered := by cases sp <;> rfl
@[simp] theorem setMem_bufferReady (s : State) (sp : Space) (m : Memory) : (s.setMem sp m).bufferReady = s.bufferReady := by cases sp <;> rfl
@[simp] theorem setMem_outputRunning (s : State) (sp : Space) (m : Memory) : (s.setMem sp m).outputRunning = s.outputRunning := by cases sp <;> rfl
@[simp] theorem setMem_ledFast (s : State) (sp : Space) (m : Memory) : (s.setMem sp m).ledFast = s.ledFast := by cases sp <;> rfl
@[simp] theorem setMem_periodFrames (s : State) (sp : Space) (m : Memory) : (s.setMem sp m).periodFrames = s.periodFrames := by cases sp <;> rfl
@[simp] theorem setMem_trace (s : State) (sp : Space) (m : Memory) : (s.setMem sp m).trace = s.trace := by cases sp <;> rfl
@[simp] theorem setMem_schedule (s : State) (sp : Space) (m : Memory) : (s.setMem sp m).schedule = s.schedule := by cases sp <;> rfl
@[simp] theorem setMem_nextPeriod (s : State) (sp : Space) (m : Memory) : (s.setMem sp m).nextPeriod = s.nextPeriod := by cases sp <;> rfl
@[simp] theorem setMem_eventsLeft (s : State) (sp : Space) (m : Memory) : (s.setMem sp m).eventsLeft = s.eventsLeft := by cases sp <;> rfl
@[simp] theorem setMem_ret (s : State) (sp : Space) (m : Memory) : (s.setMem sp m).ret = s.ret := by cases sp <;> rfl
@[simp] theorem setMem_freeCount (s : State) (sp : Space) (m : Memory) : (s.setMem sp m).freeCount = s.freeCount := by cases sp <;> rfl

/-! ## disableEndpoint -/

@[simp] theorem disableEndpoint_cfg (n : Fin 16) (d : Dir) (s : State) : (disableEndpoint n d s).cfg = s.cfg := by
  unfold disableEndpoint; split <;> simp
@[simp] theorem disableEndpoint_ctrlPhase (n : Fin 16) (d : Dir) (s : State) : (disableEndpoint n d s).ctrlPhase = s.ctrlPhase := by
  unfold disableEndpoint; split <;> simp
@[simp] theorem disableEndpoint_setup (n : Fin 16) (d : Dir) (s : State) : (disableEndpoint n d s).setup = s.setup := by
  unfold disableEndpoint; split <;> simp
@[simp] theorem disableEndpoint_cts (n : Fin 16) (d : Dir) (s : State) : (disableEndpoint n d s).cts = s.cts := by
  unfold disableEndpoint; split <;> simp
@[simp] theorem disableEndpoint_pendingOut (n : Fin 16) (d : Dir) (s : State) : (disableEndpoint n d s).pendingOut = s.pendingOut := by
  unfold disableEndpoint; split <;> simp
@[simp] theorem disableEndpoint_pendingAddress (n : Fin 16) (d : Dir) (s : State) : (disableEndpoint n d s).pendingAddress = s.pendingAddress := by
  unfold disableEndpoint; split <;> simp
@[simp] theorem disableEndpoint_addressPending (n : Fin 16) (d : Dir) (s : State) : (disableEndpoint n d s).addressPending = s.addressPending := by
  unfold disableEndpoint; split <;> simp
@[simp] theorem disableEndpoint_deviceAddress (n : Fin 16) (d : Dir) (s : State) : (disableEndpoint n d s).deviceAddress = s.deviceAddress := by
  unfold disableEndpoint; split <;> simp
@[simp] theorem disableEndpoint_activeConfig (n : Fin 16) (d : Dir) (s : State) : (disableEndpoint n d s).activeConfig = s.activeConfig := by
  unfold disableEndpoint; split <;> simp
@[simp] theorem disableEndpoint_altSetting (n : Fin 16) (d : Dir) (s : State) : (disableEndpoint n d s).altSetting = s.altSetting := by
  unfold disableEndpoint; split <;> simp
@[simp] theorem disableEndpoint_ep0Stalled (n : Fin 16) (d : Dir) (s : State) : (disableEndpoint n d s).ep0Stalled = s.ep0Stalled := by
  unfold disableEndpoint; split <;> simp
@[simp] theorem disableEndpoint_fatal (n : Fin 16) (d : Dir) (s : State) : (disableEndpoint n d s).fatal = s.fatal := by
  unfold disableEndpoint; split <;> simp
@[simp] theorem disableEndpoint_evq (n : Fin 16) (d : Dir) (s : State) : (disableEndpoint n d s).evq = s.evq := by
  unfold disableEndpoint; split <;> simp
@[simp] theorem disableEndpoint_bufLayout (n : Fin 16) (d : Dir) (s : State) : (disableEndpoint n d s).bufLayout = s.bufLayout := by
  unfold disableEndpoint; split <;> simp
@[simp] theorem disableEndpoint_chan (n : Fin 16) (d : Dir) (s : State) : (disableEndpoint n d s).chan = s.chan := by
  unfold disableEndpoint; split <;> simp
@[simp] theorem disableEndpoint_sampleRate (n : Fin 16) (d : Dir) (s : State) : (disableEndpoint n d s).sampleRate = s.sampleRate := by
  unfold disableEndpoint; split <;> simp
@[simp] theorem disableEndpoint_format (n : Fin 16) (d : Dir) (s : State) : (disableEndpoint n d s).format = s.format := by
  unfold disableEndpoint; split <;> simp
@[simp] theorem disableEndpoint_rb (n : Fin 16) (d : Dir) (s : State) : (disableEndpoint n d s).rb = s.rb := by
  unfold disableEndpoint; split <;> simp
@[simp] theorem disableEndpoint_pstate (n : Fin 16) (d : Dir) (s : State) : (disableEndpoint n d s).pstate = s.pstate := by
  unfold disableEndpoint; split <;> simp
@[simp] theorem disableEndpoint_steadyFill (n : Fin 16) (d : Dir) (s : State) : (disableEndpoint n d s).steadyFill = s.steadyFill := by
  unfold disableEndpoint; split <;> simp
@[simp] theorem disableEndpoint_filtered (n : Fin 16) (d : Dir) (s : State) : (disableEndpoint n d s).filtered = s.filtered := by
  unfold disableEndpoint; split <;> simp
@[simp] theorem disableEndpoint_bufferReady (n : Fin 16) (d : Dir) (s : State) : (disableEndpoint n d s).bufferReady = s.bufferReady := by
  unfold disableEndpoint; split <;> simp
@[simp] theorem disableEndpoint_outputRunning (n : Fin 16) (d : Dir) (s : State) : (disableEndpoint n d s).outputRunning = s.outputRunning := by
  unfold disableEndpoint; split <;> simp
@[simp] theorem disableEndpoint_ledFast (n : Fin 16) (d : Dir) (s : State) : (disableEndpoint n d s).ledFast = s.ledFast := by
  unfold disableEndpoint; split <;> simp
@[simp] theorem disableEndpoint_periodFrames (n : Fin 16) (d : Dir) (s : State) : (disableEndpoint n d s).periodFrames = s.periodFrames := by
  unfold disableEndpoint; split <;> simp
@[simp] theorem disableEndpoint_epbuf (n : Fin 16) (d : Dir) (s : State) : (disableEndpoint n d s).epbuf = s.epbuf := by
  unfold disableEndpoint; split <;> simp
@[simp] theorem disableEndpoint_ep0in (n : Fin 16) (d : Dir) (s : State) : (disableEndpoint n d s).ep0in = s.ep0in := by
  unfold disableEndpoint; split <;> simp
@[simp] theorem disableEndpoint_ep0out (n : Fin 16) (d : Dir) (s : State) : (disableEndpoint n d s).ep0out = s.ep0out := by
  unfold disableEndpoint; split <;> simp
@[simp] theorem disableEndpoint_hwbuf (n : Fin 16) (d : Dir) (s : State) : (disableEndpoint n d s).hwbuf = s.hwbuf := by
  unfold disableEndpoint; split <;> simp
@[simp] theorem disableEndpoint_schedule (n : Fin 16) (d : Dir) (s : State) : (disableEndpoint n d s).schedule = s.schedule := by
  unfold disableEndpoint; split <;> simp
@[simp] theorem disableEndpoint_nextPeriod (n : Fin 16) (d : Dir) (s : State) : (disableEndpoint n d s).nextPeriod = s.nextPeriod := by
  unfold disableEndpoint; split <;> simp
@[simp] theorem disableEndpoint_eventsLeft (n : Fin 16) (d : Dir) (s : State) : (disableEndpoint n d s).eventsLeft = s.eventsLeft := by
  unfold disableEndpoint; split <;> simp
@[simp] theorem disableEndpoint_ret (n : Fin 16) (d : Dir) (s : State) : (disableEndpoint n d s).ret = s.ret := by
  unfold disableEndpoint; split <;> simp
@[simp] theorem disableEndpoint_freeCount (n : Fin 16) (d : Dir) (s : State) : (disableEndpoint n d s).freeCount = s.freeCount := by
  unfold disableEndpoint; split <;> simp

/-! ## acceptSetup -/

@[simp] theorem acceptSetup_cfg (p : SetupPacket) (s : State) : (acceptSetup p s).cfg = s.cfg := rfl
@[simp] theorem acceptSetup_cts (p : SetupPacket) (s : State) : (acceptSetup p s).cts = s.cts := rfl
@[simp] theorem acceptSetup_pendingAddress (p : SetupPacket) (s : State) : (acceptSetup p s).pendingAddress = s.pendingAddress := rfl
@[simp] theorem acceptSetup_deviceAddress (p : SetupPacket) (s : State) : (acceptSetup p s).deviceAddress = s.deviceAddress := rfl
@[simp] theorem acceptSetup_activeConfig (p : SetupPacket) (s : State) : (acceptSetup p s).activeConfig = s.activeConfig := rfl
@[simp] theorem acceptSetup_altSetting (p : SetupPacket) (s : State) : (acceptSetup p s).altSetting = s.altSetting := rfl
@[simp] theorem acceptSetup_fatal (p : SetupPacket) (s : State) : (acceptSetup p s).fatal = s.fatal := rfl
@[simp] theorem acceptSetup_evq (p : SetupPacket) (s : State) : (acceptSetup p s).evq = s.evq := rfl
@[simp] theorem acceptSetup_bufLayout (p : SetupPacket) (s : State) : (acceptSetup p s).bufLayout = s.bufLayout := rfl
@[simp] theorem acceptSetup_chan (p : SetupPacket) (s : State) : (acceptSetup p s).chan = s.chan := rfl
@[simp] theorem acceptSetup_sampleRate (p : SetupPacket) (s : State) : (acceptSetup p s).sampleRate = s.sampleRate := rfl
@[simp] theorem acceptSetup_format (p : SetupPacket) (s : State) : (acceptSetup p s).format = s.format := rfl
@[simp] theorem acceptSetup_rb (p : SetupPacket) (s : State) : (acceptSetup p s).rb = s.rb := rfl
@[simp] theorem acceptSetup_pstate (p : SetupPacket) (s : State) : (acceptSetup p s).pstate = s.pstate := rfl
@[simp] theorem acceptSetup_steadyFill (p : SetupPacket) (s : State) : (acceptSetup p s).steadyFill = s.steadyFill := rfl
@[simp] theorem acceptSetup_filtered (p : SetupPacket) (s : State) : (acceptSetup p s).filtered = s.filtered := rfl
@[simp] theorem acceptSetup_bufferReady (p : SetupPacket) (s : State) : (acceptSetup p s).bufferReady = s.bufferReady := rfl
@[simp] theorem acceptSetup_outputRunning (p : SetupPacket) (s : State) : (acceptSetup p s).outputRunning = s.outputRunning := rfl
@[simp] theorem acceptSetup_ledFast (p : SetupPacket) (s : State) : (acceptSetup p s).ledFast = s.ledFast := rfl
@[simp] theorem acceptSetup_periodFrames (p : SetupPacket) (s : State) : (acceptSetup p s).periodFrames = s.periodFrames := rfl
@[simp] theorem acceptSetup_epbuf (p : SetupPacket) (s : State) : (acceptSetup p s).epbuf = s.epbuf := rfl
@[simp] theorem acceptSetup_ep0in (p : SetupPacket) (s : State) : (acceptSetup p s).ep0in = s.ep0in := rfl
@[simp] theorem acceptSetup_ep0out (p : SetupPacket) (s : State) : (acceptSetup p s).ep0out = s.ep0out := rfl
@[simp] theorem acceptSetup_hwbuf (p : SetupPacket) (s : State) : (acceptSetup p s).hwbuf = s.hwbuf := rfl
@[simp] theorem acceptSetup_trace (p : SetupPacket) (s : State) : (acceptSetup p s).trace = s.trace := rfl
@[simp] theorem acceptSetup_schedule (p : SetupPacket) (s : State) : (acceptSetup p s).schedule = s.schedule := rfl
@[simp] theorem acceptSetup_nextPeriod (p : SetupPacket) (s : State) : (acceptSetup p s).nextPeriod = s.nextPeriod := rfl
@[simp] theorem acceptSetup_eventsLeft (p : SetupPacket) (s : State) : (acceptSetup p s).eventsLeft = s.eventsLeft := rfl
@[simp] theorem acceptSetup_ret (p : SetupPacket) (s : State) : (acceptSetup p s).ret = s.ret := rfl
@[simp] theorem acceptSetup_freeCount (p : SetupPacket) (s : State) : (acceptSetup p s).freeCount = s.freeCount := rfl

/-! ## raiseNotice -/

@[simp] theorem raiseNotice_cfg (n : Fin 16) (d : Dir) (s : State) : (raiseNotice n d s).cfg = s.cfg := by
  unfold raiseNotice; split <;> rfl
@[simp] theorem raiseNotice_ctrlPhase (n : Fin 16) (d : Dir) (s : State) : (raiseNotice n d s).ctrlPhase = s.ctrlPhase := by
  unfold raiseNotice; split <;> rfl
@[simp] theorem raiseNotice_setup (n : Fin 16) (d : Dir) (s : State) : (raiseNotice n d s).setup = s.setup := by
  unfold raiseNotice; split <;> rfl
@[simp] theorem raiseNotice_cts (n : Fin 16) (d : Dir) (s : State) : (raiseNotice n d s).cts = s.cts := by
  unfold raiseNotice; split <;> rfl
@[simp] theorem raiseNotice_pendingOut (n : Fin 16) (d : Dir) (s : State) : (raiseNotice n d s).pendingOut = s.pendingOut := by
  unfold raiseNotice; split <;> rfl
@[simp] theorem raiseNotice_pendingAddress (n : Fin 16) (d : Dir) (s : State) : (raiseNotice n d s).pendingAddress = s.pendingAddress := by
  unfold raiseNotice; split <;> rfl
@[simp] theorem raiseNotice_addressPending (n : Fin 16) (d : Dir) (s : State) : (raiseNotice n d s).addressPending = s.addressPending := by
  unfold raiseNotice; split <;> rfl
@[simp] theorem raiseNotice_deviceAddress (n : Fin 16) (d : Dir) (s : State) : (raiseNotice n d s).deviceAddress = s.deviceAddress := by
  unfold raiseNotice; split <;> rfl
@[simp] theorem raiseNotice_activeConfig (n : Fin 16) (d : Dir) (s : State) : (raiseNotice n d s).activeConfig = s.activeConfig := by
  unfold raiseNotice; split <;> rfl
@[simp] theorem raiseNotice_altSetting (n : Fin 16) (d : Dir) (s : State) : (raiseNotice n d s).altSetting = s.altSetting := by
  unfold raiseNotice; split <;> rfl
@[simp] theorem raiseNotice_ep0Stalled (n : Fin 16) (d : Dir) (s : State) : (raiseNotice n d s).ep0Stalled = s.ep0Stalled := by
  unfold raiseNotice; split <;> rfl
@[simp] theorem raiseNotice_fatal (n : Fin 16) (d : Dir) (s : State) : (raiseNotice n d s).fatal = s.fatal := by
  unfold raiseNotice; split <;> rfl
@[simp] theorem raiseNotice_evq (n : Fin 16) (d : Dir) (s : State) : (raiseNotice n d s).evq = s.evq := by
  unfold raiseNotice; split <;> rfl
@[simp] theorem raiseNotice_epIn (n : Fin 16) (d : Dir) (s : State) : (raiseNotice n d s).epIn = s.epIn := by
  unfold raiseNotice; split <;> rfl
@[simp] theorem raiseNotice_bufLayout (n : Fin 16) (d : Dir) (s : State) : (raiseNotice n d s).bufLayout = s.bufLayout := by
  unfold raiseNotice; split <;> rfl
@[simp] theorem raiseNotice_chan (n : Fin 16) (d : Dir) (s : State) : (raiseNotice n d s).chan = s.chan := by
  unfold raiseNotice; split <;> rfl
@[simp] theorem raiseNotice_sampleRate (n : Fin 16) (d : Dir) (s : State) : (raiseNotice n d s).sampleRate = s.sampleRate := by
  unfold raiseNotice; split <;> rfl
@[simp] theorem raiseNotice_format (n : Fin 16) (d : Dir) (s : State) : (raiseNotice n d s).format = s.format := by
  unfold raiseNotice; split <;> rfl
@[simp] theorem raiseNotice_rb (n : Fin 16) (d : Dir) (s : State) : (raiseNotice n d s).rb = s.rb := by
  unfold raiseNotice; split <;> rfl
@[simp] theorem raiseNotice_pstate (n : Fin 16) (d : Dir) (s : State) : (raiseNotice n d s).pstate = s.pstate := by
  unfold raiseNotice; split <;> rfl
@[simp] theorem raiseNotice_steadyFill (n : Fin 16) (d : Dir) (s : State) : (raiseNotice n d s).steadyFill = s.steadyFill := by
  unfold raiseNotice; split <;> rfl
@[simp] theorem raiseNotice_filtered (n : Fin 16) (d : Dir) (s : State) : (raiseNotice n d s).filtered = s.filtered := by
  unfold raiseNotice; split <;> rfl
@[simp] theorem raiseNotice_bufferReady (n : Fin 16) (d : Dir) (s : State) : (raiseNotice n d s).bufferReady = s.bufferReady := by
  unfold raiseNotice; split <;> rfl
@[simp] theorem raiseNotice_outputRunning (n : Fin 16) (d : Dir) (s : State) : (raiseNotice n d s).outputRunning = s.outputRunning := by
  unfold raiseNotice; split <;> rfl
@[simp] theorem raiseNotice_ledFast (n : Fin 16) (d : Dir) (s : State) : (raiseNotice n d s).ledFast = s.ledFast := by
  unfold raiseNotice; split <;> rfl
@[simp] theorem raiseNotice_periodFrames (n : Fin 16) (d : Dir) (s : State) : (raiseNotice n d s).periodFrames = s.periodFrames := by
  unfold raiseNotice; split <;> rfl
@[simp] theorem raiseNotice_epbuf (n : Fin 16) (d : Dir) (s : State) : (raiseNotice n d s).epbuf = s.epbuf := by
  unfold raiseNotice; split <;> rfl
@[simp] theorem raiseNotice_ep0in (n : Fin 16) (d : Dir) (s : State) : (raiseNotice n d s).ep0in = s.ep0in := by
  unfold raiseNotice; split <;> rfl
@[simp] theorem raiseNotice_ep0out (n : Fin 16) (d : Dir) (s : State) : (raiseNotice n d s).ep0out = s.ep0out := by
  unfold raiseNotice; split <;> rfl
@[simp] theorem raiseNotice_hwbuf (n : Fin 16) (d : Dir) (s : State) : (raiseNotice n d s).hwbuf = s.hwbuf := by
  unfold raiseNotice; split <;> rfl
@[simp] theorem raiseNotice_trace (n : Fin 16) (d : Dir) (s : State) : (raiseNotice n d s).trace = s.trace := by
  unfold raiseNotice; split <;> rfl
@[simp] theorem raiseNotice_schedule (n : Fin 16) (d : Dir) (s : State) : (raiseNotice n d s).schedule = s.schedule := by
  unfold raiseNotice; split <;> rfl
@[simp] theorem raiseNotice_nextPeriod (n : Fin 16) (d : Dir) (s : State) : (raiseNotice n d s).nextPeriod = s.nextPeriod := by
  unfold raiseNotice; split <;> rfl
@[simp] theorem raiseNotice_eventsLeft (n : Fin 16) (d : Dir) (s : State) : (raiseNotice n d s).eventsLeft = s.eventsLeft := by
  unfold raiseNotice; split <;> rfl
@[simp] theorem raiseNotice_ret (n : Fin 16) (d : Dir) (s : State) : (raiseNotice n d s).ret = s.ret := by
  unfold raiseNotice; split <;> rfl
@[simp] theorem raiseNotice_freeCount (n : Fin 16) (d : Dir) (s : State) : (raiseNotice n d s).freeCount = s.freeCount := by
  unfold raiseNotice; split <;> rfl

/-! ## countStored -/

@[simp] theorem countStored_cfg (n : Fin 16) (k : Nat) (s : State) : (countStored n k s).cfg = s.cfg := by
  unfold countStored; split <;> rfl
@[simp] theorem countStored_ctrlPhase (n : Fin 16) (k : Nat) (s : State) : (countStored n k s).ctrlPhase = s.ctrlPhase := by
  unfold countStored; split <;> rfl
@[simp] theorem countStored_setup (n : Fin 16) (k : Nat) (s : State) : (countStored n k s).setup = s.setup := by
  unfold countStored; split <;> rfl
@[simp] theorem countStored_cts (n : Fin 16) (k : Nat) (s : State) : (countStored n k s).cts = s.cts := by
  unfold countStored; split <;> rfl
@[simp] theorem countStored_pendingOut (n : Fin 16) (k : Nat) (s : State) : (countStored n k s).pendingOut = s.pendingOut := by
  unfold countStored; split <;> rfl
@[simp] theorem countStored_pendingAddress (n : Fin 16) (k : Nat) (s : State) : (countStored n k s).pendingAddress = s.pendingAddress := by
  unfold countStored; split <;> rfl
@[simp] theorem countStored_addressPending (n : Fin 16) (k : Nat) (s : State) : (countStored n k s).addressPending = s.addressPending := by
  unfold countStored; split <;> rfl
@[simp] theorem countStored_deviceAddress (n : Fin 16) (k : Nat) (s : State) : (countStored n k s).deviceAddress = s.deviceAddress := by
  unfold countStored; split <;> rfl
@[simp] theorem countStored_activeConfig (n : Fin 16) (k : Nat) (s : State) : (countStored n k s).activeConfig = s.activeConfig := by
  unfold countStored; split <;> rfl
@[simp] theorem countStored_altSetting (n : Fin 16) (k : Nat) (s : State) : (countStored n k s).altSetting = s.altSetting := by
  unfold countStored; split <;> rfl
@[simp] theorem countStored_ep0Stalled (n : Fin 16) (k : Nat) (s : State) : (countStored n k s).ep0Stalled = s.ep0Stalled := by
  unfold countStored; split <;> rfl
@[simp] theorem countStored_fatal (n : Fin 16) (k : Nat) (s : State) : (countStored n k s).fatal = s.fatal := by
  unfold countStored; split <;> rfl
@[simp] theorem countStored_evq (n : Fin 16) (k : Nat) (s : State) : (countStored n k s).evq = s.evq := by
  unfold countStored; split <;> rfl
@[simp] theorem countStored_epIn (n : Fin 16) (k : Nat) (s : State) : (countStored n k s).epIn = s.epIn := by
  unfold countStored; split <;> rfl
@[simp] theorem countStored_bufLayout (n : Fin 16) (k : Nat) (s : State) : (countStored n k s).bufLayout = s.bufLayout := by
  unfold countStored; split <;> rfl
@[simp] theorem countStored_chan (n : Fin 16) (k : Nat) (s : State) : (countStored n k s).chan = s.chan := by
  unfold countStored; split <;> rfl
@[simp] theorem countStored_sampleRate (n : Fin 16) (k : Nat) (s : State) : (countStored n k s).sampleRate = s.sampleRate := by
  unfold countStored; split <;> rfl
@[simp] theorem countStored_format (n : Fin 16) (k : Nat) (s : State) : (countStored n k s).format = s.format := by
  unfold countStored; split <;> rfl
@[simp] theorem countStored_rb (n : Fin 16) (k : Nat) (s : State) : (countStored n k s).rb = s.rb := by
  unfold countStored; split <;> rfl
@[simp] theorem countStored_pstate (n : Fin 16) (k : Nat) (s : State) : (countStored n k s).pstate = s.pstate := by
  unfold countStored; split <;> rfl
@[simp] theorem countStored_steadyFill (n : Fin 16) (k : Nat) (s : State) : (countStored n k s).steadyFill = s.steadyFill := by
  unfold countStored; split <;> rfl
@[simp] theorem countStored_filtered (n : Fin 16) (k : Nat) (s : State) : (countStored n k s).filtered = s.filtered := by
  unfold countStored; split <;> rfl
@[simp] theorem countStored_bufferReady (n : Fin 16) (k : Nat) (s : State) : (countStored n k s).bufferReady = s.bufferReady := by
  unfold countStored; split <;> rfl
@[simp] theorem countStored_outputRunning (n : Fin 16) (k : Nat) (s : State) : (countStored n k s).outputRunning = s.outputRunning := by
  unfold countStored; split <;> rfl
@[simp] theorem countStored_ledFast (n : Fin 16) (k : Nat) (s : State) : (countStored n k s).ledFast = s.ledFast := by
  unfold countStored; split <;> rfl
@[simp] theorem countStored_periodFrames (n : Fin 16) (k : Nat) (s : State) : (countStored n k s).periodFrames = s.periodFrames := by
  unfold countStored; split <;> rfl
@[simp] theorem countStored_epbuf (n : Fin 16) (k : Nat) (s : State) : (countStored n k s).epbuf = s.epbuf := by
  unfold countStored; split <;> rfl
@[simp] theorem countStored_ep0in (n : Fin 16) (k : Nat) (s : State) : (countStored n k s).ep0in = s.ep0in := by
  unfold countStored; split <;> rfl
@[simp] theorem countStored_ep0out (n : Fin 16) (k : Nat) (s : State) : (countStored n k s).ep0out = s.ep0out := by
  unfold countStored; split <;> rfl
@[simp] theorem countStored_hwbuf (n : Fin 16) (k : Nat) (s : State) : (countStored n k s).hwbuf = s.hwbuf := by
  unfold countStored; split <;> rfl
@[simp] theorem countStored_trace (n : Fin 16) (k : Nat) (s : State) : (countStored n k s).trace = s.trace := by
  unfold countStored; split <;> rfl
@[simp] theorem countStored_schedule (n : Fin 16) (k : Nat) (s : State) : (countStored n k s).schedule = s.schedule := by
  unfold countStored; split <;> rfl
@[simp] theorem countStored_nextPeriod (n : Fin 16) (k : Nat) (s : State) : (countStored n k s).nextPeriod = s.nextPeriod := by
  unfold countStored; split <;> rfl
@[simp] theorem countStored_eventsLeft (n : Fin 16) (k : Nat) (s : State) : (countStored n k s).eventsLeft = s.eventsLeft := by
  unfold countStored; split <;> rfl
@[simp] theorem countStored_ret (n : Fin 16) (k : Nat) (s : State) : (countStored n k s).ret = s.ret := by
  unfold countStored; split <;> rfl
@[simp] theorem countStored_freeCount (n : Fin 16) (k : Nat) (s : State) : (countStored n k s).freeCount = s.freeCount := by
  unfold countStored; split <;> rfl

/-! ## configureOutput -/

@[simp] theorem configureOutput_cfg (f : SampleFormat) (s : State) : (configureOutput f s).cfg = s.cfg := rfl
@[simp] theorem configureOutput_ctrlPhase (f : SampleFormat) (s : State) : (configureOutput f s).ctrlPhase = s.ctrlPhase := rfl
@[simp] theorem configureOutput_setup (f : SampleFormat) (s : State) : (configureOutput f s).setup = s.setup := rfl
@[simp] theorem configureOutput_cts (f : SampleFormat) (s : State) : (configureOutput f s).cts = s.cts := rfl
@[simp] theorem configureOutput_pendingOut (f : SampleFormat) (s : State) : (configureOutput f s).pendingOut = s.pendingOut := rfl
@[simp] theorem configureOutput_pendingAddress (f : SampleFormat) (s : State) : (configureOutput f s).pendingAddress = s.pendingAddress := rfl
@[simp] theorem configureOutput_addressPending (f : SampleFormat) (s : State) : (configureOutput f s).addressPending = s.addressPending := rfl
@[simp] theorem configureOutput_deviceAddress (f : SampleFormat) (s : State) : (configureOutput f s).deviceAddress = s.deviceAddress := rfl
@[simp] theorem configureOutput_activeConfig (f : SampleFormat) (s : State) : (configureOutput f s).activeConfig = s.activeConfig := rfl
@[simp] theorem configureOutput_altSetting (f : SampleFormat) (s : State) : (configureOutput f s).altSetting = s.altSetting := rfl
@[simp] theorem configureOutput_ep0Stalled (f : SampleFormat) (s : State) : (configureOutput f s).ep0Stalled = s.ep0Stalled := rfl
@[simp] theorem configureOutput_fatal (f : SampleFormat) (s : State) : (configureOutput f s).fatal = s.fatal := rfl
@[simp] theorem configureOutput_evq (f : SampleFormat) (s : State) : (configureOutput f s).evq = s.evq := rfl
@[simp] theorem configureOutput_epOut (f : SampleFormat) (s : State) : (configureOutput f s).epOut = s.epOut := rfl
@[simp] theorem configureOutput_epIn (f : SampleFormat) (s : State) : (configureOutput f s).epIn = s.epIn := rfl
@[simp] theorem configureOutput_bufLayout (f : SampleFormat) (s : State) : (configureOutput f s).bufLayout = s.bufLayout := rfl
@[simp] theorem configureOutput_chan (f : SampleFormat) (s : State) : (configureOutput f s).chan = s.chan := rfl
@[simp] theorem configureOutput_sampleRate (f : SampleFormat) (s : State) : (configureOutput f s).sampleRate = s.sampleRate := rfl
@[simp] theorem configureOutput_format (f : SampleFormat) (s : State) : (configureOutput f s).format = s.format := rfl
@[simp] theorem configureOutput_rb (f : SampleFormat) (s : State) : (configureOutput f s).rb = s.rb := rfl
@[simp] theorem configureOutput_pstate (f : SampleFormat) (s : State) : (configureOutput f s).pstate = s.pstate := rfl
@[simp] theorem configureOutput_steadyFill (f : SampleFormat) (s : State) : (configureOutput f s).steadyFill = s.steadyFill := rfl
@[simp] theorem configureOutput_filtered (f : SampleFormat) (s : State) : (configureOutput f s).filtered = s.filtered := rfl
@[simp] theorem configureOutput_bufferReady (f : SampleFormat) (s : State) : (configureOutput f s).bufferReady = s.bufferReady := rfl
@[simp] theorem configureOutput_outputRunning (f : SampleFormat) (s : State) : (configureOutput f s).outputRunning = s.outputRunning := rfl
@[simp] theorem configureOutput_ledFast (f : SampleFormat) (s : State) : (configureOutput f s).ledFast = s.ledFast := rfl
@[simp] theorem configureOutput_epbuf (f : SampleFormat) (s : State) : (configureOutput f s).epbuf = s.epbuf := rfl
@[simp] theorem configureOutput_ep0in (f : SampleFormat) (s : State) : (configureOutput f s).ep0in = s.ep0in := rfl
@[simp] theorem configureOutput_ep0out (f : SampleFormat) (s : State) : (configureOutput f s).ep0out = s.ep0out := rfl
@[simp] theorem configureOutput_hwbuf (f : SampleFormat) (s : State) : (configureOutput f s).hwbuf = s.hwbuf := rfl
@[simp] theorem configureOutput_schedule (f : SampleFormat) (s : State) : (configureOutput f s).schedule = s.schedule := rfl
@[simp] theorem configureOutput_nextPeriod (f : SampleFormat) (s : State) : (configureOutput f s).nextPeriod = s.nextPeriod := rfl
@[simp] theorem configureOutput_eventsLeft (f : SampleFormat) (s : State) : (configureOutput f s).eventsLeft = s.eventsLeft := rfl
@[simp] theorem configureOutput_ret (f : SampleFormat) (s : State) : (configureOutput f s).ret = s.ret := rfl
@[simp] theorem configureOutput_freeCount (f : SampleFormat) (s : State) : (configureOutput f s).freeCount = s.freeCount := rfl
@[simp] theorem configureOutput_periodFrames (f : SampleFormat) (s : State) : (configureOutput f s).periodFrames = s.nextPeriod := rfl
@[simp] theorem configureOutput_trace (f : SampleFormat) (s : State) :
    (configureOutput f s).trace = s.trace ++ [.drvConfigure (bitDepth f) s.sampleRate] := rfl
/-! ## What the updates write -/

@[simp] theorem ep_setEp (s : State) (n : Fin 16) (d : Dir) (r : EpRecord) (m : Fin 16) (e : Dir) :
    (s.setEp n d r).ep m e = if m = n ∧ e = d then r else s.ep m e := by
  cases d <;> cases e <;> simp [State.setEp, State.ep, Vector.getElem_set, eq_comm, Fin.ext_iff]

/-- An endpoint record is read from the table alone. -/
theorem ep_congr {s t : State} (ho : t.epOut = s.epOut) (hi : t.epIn = s.epIn) (n : Fin 16) (d : Dir) :
    t.ep n d = s.ep n d := by
  cases d <;> simp [State.ep, ho, hi]

@[simp] theorem ep_emit (c : Cmd) (s : State) (n : Fin 16) (d : Dir) : (emit c s).ep n d = s.ep n d :=
  ep_congr rfl rfl n d

@[simp] theorem ep_setMem (s : State) (sp : Space) (m : Memory) (n : Fin 16) (d : Dir) :
    (s.setMem sp m).ep n d = s.ep n d := by
  cases sp <;> rfl

@[simp] theorem ep_disarm (s : State) (n : Fin 16) (d : Dir) (m : Fin 16) (e : Dir) :
    (s.disarm n d).ep m e = if m = n ∧ e = d then { s.ep n d with armed := none } else s.ep m e := by
  simp [State.disarm]

@[simp] theorem ep_setToggle (s : State) (n : Fin 16) (d : Dir) (p : Pid) (m : Fin 16) (e : Dir) :
    (s.setToggle n d p).ep m e = if m = n ∧ e = d then { s.ep n d with nextToggleBit := p } else s.ep m e := by
  simp [State.setToggle]

/-- Where nothing is armed, changing what is armed changes nothing. -/
theorem armed_map_of_none {r : EpRecord} (h : r.armed = none) (f : Armed → Armed) :
    { r with armed := r.armed.map f } = r := by
  cases r; cases h; rfl

/-- A notice marks what is armed on an OUT endpoint, and nothing else of the table. -/
@[simp] theorem ep_raiseNotice (n : Fin 16) (d : Dir) (s : State) (m : Fin 16) (e : Dir) :
    (raiseNotice n d s).ep m e = if m = n ∧ e = d ∧ d = .OUT then
      { s.ep n d with armed := (s.ep n d).armed.map fun a => { a with noticed := true } } else s.ep m e := by
  unfold raiseNotice
  split
  · next a ha =>
    simp only [ep_setEp, ha, Option.map_some, and_true]
  · next hd =>
    split
    · next h =>
      obtain ⟨rfl, rfl, rfl⟩ := h
      rcases Option.eq_none_or_eq_some (s.ep m .OUT).armed with ha | ⟨a, ha⟩
      · exact (armed_map_of_none ha _).symm
      · exact absurd ha (hd a rfl)
    · rfl

/-- A store counts on what is armed on the endpoint, and on nothing else of the table. -/
@[simp] theorem ep_countStored (n : Fin 16) (k : Nat) (s : State) (m : Fin 16) (e : Dir) :
    (countStored n k s).ep m e = if m = n ∧ e = .OUT then
      { s.ep n .OUT with armed := (s.ep n .OUT).armed.map fun a => { a with stored := max a.stored k } }
      else s.ep m e := by
  unfold countStored
  split
  · next a ha => simp [ha]
  · next ha =>
    split
    · next h => obtain ⟨rfl, rfl⟩ := h; exact (armed_map_of_none ha _).symm
    · rfl

@[simp] theorem mem_setMem (s : State) (sp sp' : Space) (m : Memory) :
    (s.setMem sp m).mem sp' = if sp' = sp then m else s.mem sp' := by
  cases sp <;> cases sp' <;> rfl

@[simp] theorem mem_setEp (s : State) (n : Fin 16) (d : Dir) (r : EpRecord) (sp : Space) :
    (s.setEp n d r).mem sp = s.mem sp := by
  cases d <;> cases sp <;> rfl

@[simp] theorem mem_emit (c : Cmd) (s : State) (sp : Space) : (emit c s).mem sp = s.mem sp := by
  cases sp <;> rfl

@[simp] theorem channel_setChannel (s : State) (c : Chan) (x : ChannelControl) (c' : Chan) :
    (s.setChannel c x).channel c' = if c' = c then x else s.channel c' := by
  cases c <;> cases c' <;> rfl

end Sys2Proof.Machine
end

