-- ==== Sys2Proof/Laws/Outcome.lean ====
section
/-! SUPPORT. How a procedure's result becomes an outcome, and what a halted machine does. -/

namespace Sys2Proof.Machine

@[simp] theorem bind_ok {α β : Type} (a : α) (s : State) (k : α → State → Res β) : (Res.ok a s).bind k = k a s := rfl
@[simp] theorem bind_ended {α β : Type} (s : State) (k : α → State → Res β) : (Res.ended s).bind k = .ended s := rfl
@[simp] theorem bind_fault {α β : Type} (f : Fault) (k : α → State → Res β) : (Res.fault f).bind k = .fault f := rfl
@[simp] theorem bind_refused {α β : Type} (e : Refusal) (k : α → State → Res β) :
    (Res.refused e).bind k = .refused e := rfl

@[simp] theorem outcome_ok {α : Type} (a : α) (s : State) : (Res.ok a s).outcome = .next s := rfl
@[simp] theorem outcome_ended {α : Type} (s : State) : (Res.ended s : Res α).outcome = .next s := rfl
@[simp] theorem outcome_fault {α : Type} (f : Fault) : (Res.fault f : Res α).outcome = .fault f := rfl
@[simp] theorem outcome_refused {α : Type} (e : Refusal) : (Res.refused e : Res α).outcome = .refused e := rfl

@[simp] theorem latch_ok {α : Type} (a : α) (s : State) (f : α → RetVal) :
    (Res.ok a s).latch f = .ok () { s with ret := f a } := rfl
@[simp] theorem ignore_ok {α : Type} (a : α) (s : State) : (Res.ok a s).ignore = .ok () s := rfl

@[simp] theorem ofOption_some {α : Type} (e : Refusal) (a : α) (s : State) : Res.ofOption e (some a) s = .ok a s := rfl
@[simp] theorem ofOption_none {α : Type} (e : Refusal) (s : State) : (Res.ofOption e none s : Res α) = .refused e := rfl

/-- Where an assertion held, the function's value, and the state as it was. -/
theorem ofOption_eq_ok {α : Type} {e : Refusal} {o : Option α} {a : α} {s t : State} (h : Res.ofOption e o s = .ok a t) :
    o = some a ∧ t = s := by
  cases o with
  | some b => cases h; exact ⟨rfl, rfl⟩
  | none => cases h

/-- A running machine takes the operation. -/
theorem live_of_running {s : State} (h : s.fatal = none) (r : Res Unit) : live s r = r.outcome := if_pos h

/-- A halted machine leaves the state as it is (60 R456). -/
theorem live_of_halted {s : State} (h : s.fatal ≠ none) (r : Res Unit) : live s r = .next s := if_neg h

/-- A selected row runs where its selector holds. -/
theorem selected_of {s : State} (h : s.fatal = none) {sel : Bool} (hs : sel = true) (r : Res Unit) :
    selected sel s r = r.outcome := by
  simp [selected, live_of_running h, hs]

/-- What follows a procedure: it ran on the procedure's result, or the procedure had ended. -/
theorem bind_eq_ok {α β : Type} {r : Res α} {k : α → State → Res β} {b : β} {t : State} (h : r.bind k = .ok b t) :
    ∃ a u, r = .ok a u ∧ k a u = .ok b t := by
  cases r with
  | ok a u => exact ⟨a, u, rfl, h⟩
  | ended _ => cases h
  | fault _ => cases h
  | refused _ => cases h

/-- The two ways to a next state: a result, or a raised exception. -/
theorem outcome_eq_next {α : Type} {r : Res α} {t : State} (h : r.outcome = .next t) :
    (∃ a, r = .ok a t) ∨ r = .ended t := by
  cases r with
  | ok a u => exact .inl ⟨a, by cases h; rfl⟩
  | ended u => exact .inr (by cases h; rfl)
  | fault _ => cases h
  | refused _ => cases h

end Sys2Proof.Machine
end

