-- ==== Sys2Proof/Laws/Memory.lean ====
section
/-! SUPPORT. The memory laws: a read after a write, and every memory operation keeps the canonical form. -/

namespace Sys2Proof.Machine

theorem read_write_same (m : Memory) (a : Nat) (b : Byte) : (m.write a b).read a = some b := by
  induction m with
  | nil => simp [Memory.write, Memory.read]
  | cons c r ih =>
    simp only [Memory.write]
    split
    · simp [Memory.read]
    · split
      · simp [Memory.read]
      · simp [Memory.read, *]

theorem read_write_other (m : Memory) {a a' : Nat} (h : a' ≠ a) (b : Byte) : (m.write a b).read a' = m.read a' := by
  induction m with
  | nil => simp [Memory.write, Memory.read, h]
  | cons c r ih =>
    simp only [Memory.write]
    split
    · simp [Memory.read, h]
    · split
      · next hc => simp [Memory.read, h, ← hc]
      · simp [Memory.read, ih]

/-- What an address reads as after one byte was written. -/
@[simp] theorem read_write (m : Memory) (a a' : Nat) (b : Byte) :
    (m.write a b).read a' = if a' = a then some b else m.read a' := by
  split
  · next h => rw [h, read_write_same]
  · next h => exact read_write_other m h b

/-- What an address reads as after a byte string was written. -/
theorem read_writeN (m : Memory) (base : Nat) (b : Bytes) (a : Nat) :
    (m.writeN base b).read a = stored base b m.read a := by
  induction b generalizing m base with
  | nil => simp [Memory.writeN, stored]
  | cons x r ih =>
    simp only [Memory.writeN, ih, stored, read_write, List.length_cons]
    by_cases h1 : a = base
    · subst h1; simp
    · by_cases h2 : base + 1 ≤ a ∧ a < base + 1 + r.length
      · have h3 : base ≤ a ∧ a < base + (r.length + 1) := by omega
        obtain ⟨k, rfl⟩ : ∃ k, a = base + 1 + k := ⟨a - (base + 1), by omega⟩
        rw [if_pos h2, if_pos h3]
        simp [show base + 1 + k - base = k + 1 by omega]
      · have h3 : ¬(base ≤ a ∧ a < base + (r.length + 1)) := by omega
        rw [if_neg h2, if_neg h3, if_neg h1]

theorem mem_write_addr {m : Memory} {a : Nat} {b : Byte} {c : Host.Cell} (h : c ∈ m.write a b) : c = (a, b) ∨ c ∈ m := by
  induction m with
  | nil => simpa [Memory.write] using h
  | cons x r ih =>
    simp only [Memory.write] at h
    split at h
    · simpa using h
    · split at h
      · rcases List.mem_cons.1 h with h | h
        · exact .inl h
        · exact .inr (List.mem_cons_of_mem _ h)
      · rcases List.mem_cons.1 h with h | h
        · exact .inr (h ▸ List.mem_cons_self ..)
        · exact (ih h).imp id (List.mem_cons_of_mem _)

/-- A write keeps the canonical form. -/
theorem write_wf {m : Memory} (h : m.wf) (a : Nat) (b : Byte) : (m.write a b).wf := by
  refine ⟨?_, fun c _ => by simp [Memory.unlisted]⟩
  have hp := h.1
  clear h
  induction m with
  | nil => simp [Memory.write]
  | cons x r ih =>
    obtain ⟨hx, hr⟩ := List.pairwise_cons.1 hp
    simp only [Memory.write]
    split
    · next hlt =>
      refine List.pairwise_cons.2 ⟨fun c hc => ?_, hp⟩
      rcases List.mem_cons.1 hc with rfl | hc
      · exact hlt
      · exact lt_trans hlt (hx c hc)
    · split
      · next heq => exact List.pairwise_cons.2 ⟨fun c hc => heq ▸ hx c hc, hr⟩
      · refine List.pairwise_cons.2 ⟨fun c hc => ?_, ih hr⟩
        rcases mem_write_addr hc with rfl | hc
        · simp only; omega
        · exact hx c hc

/-- A write of a byte string keeps the canonical form. -/
theorem writeN_wf {m : Memory} (h : m.wf) (a : Nat) (b : Bytes) : (m.writeN a b).wf := by
  induction b generalizing m a with
  | nil => exact h
  | cons x r ih => exact ih (write_wf h a x) (a + 1)

/-- A write of a byte string lists no address but those it writes. -/
theorem writeN_addr {m : Memory} {a : Nat} {b : Bytes} {c : Host.Cell} (h : c ∈ m.writeN a b) :
    (a ≤ c.1 ∧ c.1 < a + b.length) ∨ c ∈ m := by
  induction b generalizing m a with
  | nil => exact .inr h
  | cons x r ih =>
    simp only [List.length_cons]
    rcases ih h with h | h
    · left; omega
    · rcases mem_write_addr h with rfl | h
      · left; simp only; omega
      · exact .inr h

/-- What `MemRead` answers, address by address. -/
theorem readN_eq_some {m : Memory} {a n : Nat} {b : Bytes} (h : m.readN a n = some b) :
    b.length = n ∧ ∀ j < n, m.read (a + j) = b[j]? := by
  induction n generalizing a b with
  | zero => simp [Memory.readN] at h; subst h; simp
  | succ k ih =>
    simp only [Memory.readN] at h
    split at h
    · cases h
    · next x hx =>
      obtain ⟨r, hr, rfl⟩ := Option.map_eq_some_iff.1 h
      obtain ⟨hl, hj⟩ := ih hr
      refine ⟨by simp [hl], fun j hj' => ?_⟩
      cases j with
      | zero => simpa using hx
      | succ j =>
        have := hj j (by omega)
        simpa [show a + (j + 1) = a + 1 + j by omega] using this

/-- The whole effect of `MemWrite`. -/
theorem memWrite_eq_ok {sp : Space} {a : Nat} {b : Bytes} {s t : State} {u : Unit} (h : memWrite sp a b s = .ok u t) :
    t = s.setMem sp ((s.mem sp).writeN a b) ∧ (b.length = 0 ∨ a + b.length ≤ s.spaceSize sp) := by
  unfold memWrite at h
  split at h
  · next hb => cases h; exact ⟨rfl, hb⟩
  · cases h

/-- `MemWrite` inside its space answers. -/
theorem memWrite_ok {sp : Space} {a : Nat} {b : Bytes} {s : State} (h : a + b.length ≤ s.spaceSize sp) :
    memWrite sp a b s = .ok () (s.setMem sp ((s.mem sp).writeN a b)) := if_pos (.inr h)

/-- `MemRead` writes nothing and answers what the addresses read as. -/
theorem memRead_eq_ok {sp : Space} {a n : Nat} {s t : State} {b : Bytes} (h : memRead sp a n s = .ok b t) :
    t = s ∧ (s.mem sp).readN a n = some b := by
  unfold memRead at h
  split at h
  · split at h
    · next hb => cases h; exact ⟨rfl, hb⟩
    · cases h
  · cases h

end Sys2Proof.Machine
end

