-- ==== Sys2Proof/Laws/Endpoint.lean ====
section
/-! SUPPORT. One lemma for each shared operation of the Endpoint/Buffer Manager: everything it can do. -/

namespace Sys2Proof.Machine

/-- What the copy of `startTransfer` writes: for IN, the first `length` bytes, into the endpoint's buffer (43 R292). -/
theorem copyToEndpoint_eq_ok {n : Fin 16} {d : Dir} {buffer : Bytes} {length : Nat} {s t : State} {u : Unit}
    (h : copyToEndpoint n d buffer length s = .ok u t) :
    (d = .OUT ∧ t = s) ∨
    (d = .IN ∧ n = 0 ∧ length ≤ buffer.length ∧ t = s.setMem .ep0in (s.ep0in.writeN 0 (buffer.take length))) ∨
    (d = .IN ∧ n ≠ 0 ∧ length ≤ buffer.length ∧
      t = s.setMem .epbuf (s.epbuf.writeN (s.ep n .IN).bufferAddress (buffer.take length))) := by
  cases d with
  | OUT => cases h; exact .inl ⟨rfl, rfl⟩
  | IN =>
    simp only [copyToEndpoint] at h
    split at h
    · cases h
    · next hl =>
      split at h
      · next hn => exact .inr (.inl ⟨rfl, hn, by omega, (memWrite_eq_ok h).1⟩)
      · next hn => exact .inr (.inr ⟨rfl, hn, by omega, (memWrite_eq_ok h).1⟩)

/-- `startTransfer` answers `fail` with the state as it was, or `ok` with the copy made and the endpoint armed
(43 R292). -/
theorem startTransfer_eq_ok {n : Fin 16} {d : Dir} {buffer : Bytes} {length : Nat} {s t : State} {r : Bool}
    (h : startTransfer n d buffer length s = .ok r t) :
    (r = false ∧ t = s ∧ ((s.ep n d).enabled = false ∨ (s.ep n d).maxPacketSize < length)) ∨
    (r = true ∧ (s.ep n d).enabled = true ∧ length ≤ (s.ep n d).maxPacketSize ∧
      ∃ u, copyToEndpoint n d buffer length s = .ok () u ∧ t = armEndpoint n d length u) := by
  unfold startTransfer at h
  split at h
  · next he => cases h; exact .inl ⟨rfl, rfl, .inl he⟩
  · next he =>
    split at h
    · next hl => cases h; exact .inl ⟨rfl, rfl, .inr hl⟩
    · next hl =>
      obtain ⟨_, u, hu, hk⟩ := bind_eq_ok h
      cases hk
      exact .inr ⟨rfl, by simpa using he, by omega, u, hu, rfl⟩

/-- `startTransfer` never ends an event. -/
theorem startTransfer_ne_ended {n : Fin 16} {d : Dir} {buffer : Bytes} {length : Nat} {s t : State} :
    startTransfer n d buffer length s ≠ .ended t := by
  unfold startTransfer copyToEndpoint memWrite
  split_ifs <;> cases d <;> simp

/-- `startTransfer` on an enabled OUT endpoint that may carry the length arms it. -/
theorem startTransfer_out {n : Fin 16} {buffer : Bytes} {length : Nat} {s : State}
    (he : (s.ep n .OUT).enabled = true) (hl : length ≤ (s.ep n .OUT).maxPacketSize) :
    startTransfer n .OUT buffer length s = .ok true (armEndpoint n .OUT length s) := by
  unfold startTransfer copyToEndpoint
  rw [if_neg (by simp [he]), if_neg (by omega)]
  rfl

/-- The record of the endpoint armed, and of every other. -/
@[simp] theorem ep_armEndpoint (n : Fin 16) (d : Dir) (length : Nat) (s : State) (m : Fin 16) (e : Dir) :
    (armEndpoint n d length s).ep m e = if m = n ∧ e = d then (s.ep n d).afterArm length else s.ep m e := by
  simp [armEndpoint, EpRecord.afterArm]

/-- `disableEndpoint` on the table (43 R282). -/
@[simp] theorem ep_disableEndpoint (n : Fin 16) (d : Dir) (s : State) (m : Fin 16) (e : Dir) :
    (disableEndpoint n d s).ep m e =
      if m = n ∧ e = d then { s.ep n d with enabled := false, armed := none } else s.ep m e := by
  unfold disableEndpoint
  split <;> simp

/-- The whole effect of `enableEndpoint` (43 R288). -/
theorem enableEndpoint_eq_ok {e : EpItem} {s t : State} {u : Unit} (h : enableEndpoint e s = .ok u t) :
    ∃ off, layoutAt s (addrOf e) = some off ∧
      t = emit (.hwEnableEndpoint e.number e.direction e.type off)
        (s.setEp e.number e.direction ⟨e.type, e.maxPacketSize, off, .data0, true, none⟩) := by
  unfold enableEndpoint at h
  split at h
  · cases h
  · next off hoff => cases h; exact ⟨off, hoff, rfl⟩

/-- Disabling a list of endpoints disables each and leaves every other as it was. -/
theorem ep_disableAll (l : List (Fin 16 × Dir)) (s : State) (n : Fin 16) (d : Dir) :
    (disableAll l s).ep n d =
      if (n, d) ∈ l then { s.ep n d with enabled := false, armed := none } else s.ep n d := by
  induction l generalizing s with
  | nil => simp [disableAll]
  | cons x r ih =>
    obtain ⟨m, e⟩ := x
    simp only [disableAll, ih, ep_disableEndpoint, List.mem_cons, Prod.mk.injEq]
    by_cases h : n = m ∧ d = e
    · obtain ⟨rfl, rfl⟩ := h; simp
    · simp [h]

/-- The two ways `ComputeLayout` ends: the layout fits, or the fatal fault, with the layout written in both
(43 R286). -/
theorem computeLayout_cases (s : State) :
    let t := { s with bufLayout := (layoutOf s.cfg.val s.bufLayout).1 }
    ((layoutOf s.cfg.val s.bufLayout).2 ≤ s.cfg.val.sharedCapacity ∧ computeLayout s = .ok () t) ∨
    (s.cfg.val.sharedCapacity < (layoutOf s.cfg.val s.bufLayout).2 ∧
      computeLayout s = .ended { t with fatal := some .bufferAlloc }) := by
  unfold computeLayout fatalHalt
  by_cases h : s.cfg.val.sharedCapacity < (layoutOf s.cfg.val s.bufLayout).2
  · exact .inr ⟨h, if_pos h⟩
  · exact .inl ⟨by omega, if_neg h⟩

end Sys2Proof.Machine
end

