-- ==== Sys2Proof/Laws/Clear.lean ====
section
/-! SUPPORT. The effects EP_CLEAR can have (spec/40_control_dispatch.md R184, spec/93_implementation_defined.md U8):
what its actions leave as it was, and that they always complete on a ready engine. -/

namespace Sys2Proof.Machine

/-! ## The state of the device -/

@[simp] theorem epRecord_device_device (r : EpRecord) : r.device.device = r.device := by
  cases r with | mk _ _ _ _ _ a => cases a <;> rfl

@[simp] theorem ep_device (s : State) (n : Fin 16) (d : Dir) : s.device.ep n d = (s.ep n d).device := by
  cases d <;> simp [State.device, State.ep]

@[simp] theorem device_device (s : State) : s.device.device = s.device := by
  simp [State.device, Vector.map_map, Function.comp_def]

/-- The state of the device does not depend on the trace, nor on what is the model's own. -/
@[simp] theorem device_update (s : State) (trace : List Cmd) (schedule : List Stimulus) (p k f : Nat) (r : RetVal) :
    { s with trace := trace, schedule := schedule, nextPeriod := p, eventsLeft := k, ret := r, freeCount := f }.device
      = s.device := rfl

/-- A command emitted is no change of the state of the device (10 R60). -/
@[simp] theorem device_emit (c : Cmd) (s : State) : (emit c s).device = s.device := rfl

/-- EP_CLEAR with another effect than the reference: which one depends on the state of the device alone (93 U8). -/
theorem epClear_custom {s : State} {k : Nat} (h : s.cfg.val.clearEffect = .custom k) :
    epClear s = match Config.clearPlan k s.device with
      | none => stall s
      | some l => (clearActions l s).bind fun _ s => ack s := by
  simp only [epClear, h] <;> rfl

/-! ## The actions of EP_CLEAR -/

/-- What the actions of EP_CLEAR may write: for every endpoint its toggle and what is armed; the IN buffers, the trace
and the feedback filter. -/
structure ClearFrame (s t : State) : Prop where
  rest : t = { s with
    epOut := t.epOut, epIn := t.epIn, epbuf := t.epbuf, ep0in := t.ep0in, trace := t.trace, filtered := t.filtered }
  eps  : ∀ n d, t.ep n d = { s.ep n d with armed := (t.ep n d).armed, nextToggleBit := (t.ep n d).nextToggleBit }

theorem ClearFrame.refl (s : State) : ClearFrame s s := ⟨rfl, fun _ _ => rfl⟩

theorem ClearFrame.trans {s t u : State} (h : ClearFrame s t) (k : ClearFrame t u) : ClearFrame s u := by
  refine ⟨?_, fun n d => ?_⟩
  · have hk := k.rest
    rw [h.rest] at hk
    exact hk
  · have hk := k.eps n d
    rw [h.eps n d] at hk
    exact hk

theorem ClearFrame.ready {s t : State} (h : ClearFrame s t) (hr : Ep0Ready s) (hb : BuffersFit s) :
    Ep0Ready t ∧ BuffersFit t := by
  have i := h.eps 0 .IN
  have o := h.eps 0 .OUT
  simp only [State.ep] at i o
  refine ⟨⟨?_, ?_, ?_, ?_⟩, fun n d hn he => ?_⟩
  · rw [show t.epIn[0] = _ from i]; exact hr.inEnabled
  · rw [show t.epIn[0] = _ from i]; exact hr.inSize
  · rw [show t.epOut[0] = _ from o]; exact hr.outEnabled
  · rw [show t.epOut[0] = _ from o]; exact hr.outSize
  · rw [h.eps n d] at he ⊢
    rw [h.rest]
    exact hb n d hn he

theorem clearFrame_setEp (s : State) (n : Fin 16) (d : Dir) (a : Option Armed) (p : Pid) :
    ClearFrame s (s.setEp n d { s.ep n d with armed := a, nextToggleBit := p }) := by
  refine ⟨by cases d <;> rfl, fun m e => ?_⟩
  simp only [ep_setEp]
  split
  · next h => obtain ⟨rfl, rfl⟩ := h; rfl
  · rfl

theorem clearFrame_armEndpoint (n : Fin 16) (d : Dir) (length : Nat) (s : State) :
    ClearFrame s (armEndpoint n d length s) :=
  have h := clearFrame_setEp s n d (some (.fresh length (s.ep n d).nextToggleBit)) (flipPid (s.ep n d).nextToggleBit)
  h.trans ⟨rfl, fun _ _ => rfl⟩

theorem clearFrame_ep0in (m : Memory) (s : State) : ClearFrame s (s.setMem .ep0in m) := ⟨rfl, fun _ _ => rfl⟩

theorem clearFrame_epbuf (m : Memory) (s : State) : ClearFrame s (s.setMem .epbuf m) := ⟨rfl, fun _ _ => rfl⟩

theorem clearFrame_filtered (q : Rat) (s : State) : ClearFrame s { s with filtered := q } := ⟨rfl, fun _ _ => rfl⟩

/-- A transfer of a buffer's own length completes on a ready engine, armed or not. -/
theorem startTransfer_total {s : State} (hr : Ep0Ready s) (hb : BuffersFit s) (n : Fin 16) (d : Dir) (buffer : Bytes)
    (length : Nat) (hl : d = .IN → buffer.length = length) :
    ∃ r t, startTransfer n d buffer length s = .ok r t ∧ ClearFrame s t := by
  unfold startTransfer
  split
  · exact ⟨_, _, rfl, .refl s⟩
  · next he =>
    split
    · exact ⟨_, _, rfl, .refl s⟩
    · next hm =>
      cases d with
      | OUT => exact ⟨_, _, rfl, clearFrame_armEndpoint n .OUT length s⟩
      | IN =>
        obtain rfl := hl rfl
        simp only [copyToEndpoint, lt_irrefl, if_false, List.take_length]
        split
        · next hn =>
          subst hn
          have h64 : (s.ep 0 .IN).maxPacketSize = 64 := hr.inSize
          rw [memWrite_ok (by simp only [State.spaceSize]; omega)]
          exact ⟨_, _, rfl, (clearFrame_ep0in _ s).trans (clearFrame_armEndpoint 0 .IN _ _)⟩
        · next hn =>
          have := hb n .IN hn (by simpa using he)
          rw [memWrite_ok (by simp only [State.spaceSize]; omega)]
          exact ⟨_, _, rfl, (clearFrame_epbuf _ s).trans (clearFrame_armEndpoint n .IN _ _)⟩

theorem ignore_eq {α : Type} {r : Res α} {a : α} {t : State} (h : r = .ok a t) : r.ignore = .ok () t := by
  subst h; rfl

/-- One action completes on a ready engine. -/
theorem clearAction_total {s : State} (hr : Ep0Ready s) (hb : BuffersFit s) (a : ClearAction) :
    ∃ t, clearAction a s = .ok () t ∧ ClearFrame s t := by
  cases a with
  | setToggle n d p => exact ⟨_, rfl, clearFrame_setEp s n d _ _⟩
  | disarm n d => exact ⟨_, rfl, clearFrame_setEp s n d _ _⟩
  | armOut n length =>
    obtain ⟨r, t, h, hf⟩ := startTransfer_total hr hb n .OUT [] length (by simp)
    exact ⟨t, ignore_eq h, hf⟩
  | armIn n buffer =>
    obtain ⟨r, t, h, hf⟩ := startTransfer_total hr hb n .IN buffer buffer.length (fun _ => rfl)
    exact ⟨t, ignore_eq h, hf⟩
  | feedback =>
    obtain ⟨r, t, h, hf⟩ := startTransfer_total (s := { s with filtered := nextFiltered s })
      ⟨hr.1, hr.2, hr.3, hr.4⟩ hb s.cfg.val.epFbIn .IN (Bits.toLE32 (feedbackValue s)) 4 (fun _ => rfl)
    exact ⟨t, ignore_eq h, (clearFrame_filtered _ s).trans hf⟩

/-- Every list of actions completes on a ready engine, and writes what the actions may write. -/
theorem clearActions_total {s : State} (hr : Ep0Ready s) (hb : BuffersFit s) (l : List ClearAction) :
    ∃ t, clearActions l s = .ok () t ∧ ClearFrame s t := by
  induction l generalizing s with
  | nil => exact ⟨s, rfl, .refl s⟩
  | cons a r ih =>
    obtain ⟨u, hu, hfu⟩ := clearAction_total hr hb a
    obtain ⟨hr', hb'⟩ := hfu.ready hr hb
    obtain ⟨t, ht, hft⟩ := ih hr' hb'
    exact ⟨t, by simp [clearActions, hu, ht], hfu.trans hft⟩

end Sys2Proof.Machine
end

