-- ==== Sys2Proof/Laws/Hardware.lean ====
section
/-! SUPPORT. What the hardware and the environment can do: a pushed notice, a store, a period. -/

namespace Sys2Proof.Machine

/-- The two ways the append of an event ends (48 R420). -/
theorem enqueue_cases (e : UsbEvent) (s : State) :
    (s.evq.length < s.cfg.val.qCap ∧ enqueue e s = .ok () { s with evq := s.evq ++ [e] }) ∨
    (s.cfg.val.qCap ≤ s.evq.length ∧ enqueue e s = .ended { s with fatal := some .queueOverflow }) := by
  unfold enqueue fatalHalt
  by_cases h : s.evq.length < s.cfg.val.qCap
  · exact .inl ⟨h, if_pos h⟩
  · exact .inr ⟨by omega, if_neg h⟩

/-- Everything a pushed completion notice can do (48 R420, 10 R66, R67): refused where it breaks the contract, else the
overflow, or the append with the buffer of an OUT endpoint closed. -/
theorem push_bufferDone_cases (n : Fin 16) (d : Dir) (len : Nat) (s : State) :
    (completionAllowed s n d len = false ∧ push (.bufferDone n d len) s = .refused (.hardwareContract n d)) ∨
    (completionAllowed s n d len = true ∧ s.cfg.val.qCap ≤ s.evq.length ∧
      push (.bufferDone n d len) s = .ended { s with fatal := some .queueOverflow }) ∨
    (completionAllowed s n d len = true ∧ s.evq.length < s.cfg.val.qCap ∧
      push (.bufferDone n d len) s = .ok () (raiseNotice n d { s with evq := s.evq ++ [.bufferDone n d len] })) := by
  unfold push
  cases hc : completionAllowed s n d len with
  | false => exact .inl ⟨rfl, by simp [hc]⟩
  | true =>
    rcases enqueue_cases (.bufferDone n d len) s with ⟨h, he⟩ | ⟨h, he⟩
    · exact .inr (.inr ⟨rfl, h, by simp [hc, he]⟩)
    · exact .inr (.inl ⟨rfl, h, by simp [hc, he]⟩)

/-- A notice the contract admits, written out (10 R66, R67, 93 U13). -/
theorem completionAllowed_iff (s : State) (n : Fin 16) (d : Dir) (len : Nat) :
    completionAllowed s n d len = true ↔ ¬BreaksContract s n d len := by
  unfold completionAllowed BreaksContract
  cases he : (s.ep n d).enabled with
  | false => simp
  | true =>
    by_cases hn : n = 0
    · subst hn
      cases hd : d <;> cases hp : s.ctrlPhase <;> cases ha : (s.ep 0 d).armed <;>
        simp_all [phaseExpects] <;> omega
    · cases hd : d <;> cases ha : (s.ep n d).armed <;> (simp_all; try omega)

/-- Everything the hardware's store can do on a running machine (10 R66): the bytes in the buffer of the endpoint,
counted; a store outside the window between arming and notice is refused. -/
theorem storeOut_eq_ok {n : Fin 16} {b : Bytes} {s t : State} {u : Unit} (hf : s.fatal = none)
    (h : storeOut n b s = .ok u t) :
    storeAllowed s n b = true ∧
    ((n = 0 ∧ t = countStored n b.length (s.setMem .ep0out (s.ep0out.writeN 0 b))) ∨
     (n ≠ 0 ∧ t = countStored n b.length (s.setMem .epbuf (s.epbuf.writeN (s.ep n .OUT).bufferAddress b)))) := by
  unfold storeOut at h
  rw [if_pos hf] at h
  split at h
  · next ha =>
    obtain ⟨_, v, hv, hk⟩ := bind_eq_ok h
    cases hk
    refine ⟨ha, ?_⟩
    split at hv
    · next hn => exact .inl ⟨hn, by rw [(memWrite_eq_ok hv).1]; rfl⟩
    · next hn => exact .inr ⟨hn, by rw [(memWrite_eq_ok hv).1]; rfl⟩
  · cases h

/-- Everything the environment's period can do (10 R63). -/
theorem setNextPeriod_eq_ok {k : Nat} {s t : State} {u : Unit} (hf : s.fatal = none) (h : setNextPeriod k s = .ok u t) :
    1 ≤ k ∧ t = { s with nextPeriod := k } := by
  unfold setNextPeriod at h
  rw [if_pos hf] at h
  split at h
  · cases h
  · next hk => cases h; exact ⟨by omega, rfl⟩

end Sys2Proof.Machine
end

