-- ==== Sys2Proof/Laws/Mixer.lean ====
section
/-! SUPPORT. The gain lookup: where it has a meaning (spec/46_mixer.md R379), and what the three gains are. -/

namespace Sys2Proof.Machine

/-- The truncated dB of a volume is in the table exactly for R379's interval. -/
theorem volumeDb_mem_iff (v : BitVec 16) : (-96 ≤ volumeDb v ∧ volumeDb v ≤ 0) ↔ InTable v := by
  unfold volumeDb InTable Const.dbScale
  rcases Int.le_total 0 v.toInt with h | h
  · rw [Int.tdiv_eq_ediv_of_nonneg h]; omega
  · have : v.toInt.tdiv 256 = -((-v.toInt) / 256) := by
      rw [← Int.tdiv_eq_ediv_of_nonneg (by omega), Int.neg_tdiv, neg_neg]
    rw [this]; omega

/-- A well-formed gain table has 97 entries (46 R376). -/
theorem gainTable_length (c : WfConfig) : c.val.gainTable.length = 97 := by
  have h := c.ok
  simp only [Config.wf, gainTableOk, Bool.and_eq_true, decide_eq_true_eq] at h
  tauto

/-- A volume in the table has the gain of its entry (46 R379). -/
theorem lookup_of_inTable (c : WfConfig) {v : BitVec 16} (h : InTable v) :
    ∃ g, lookup c.val v = some g ∧ c.val.gainTable[(volumeDb v + 96).toNat]? = some g := by
  have hv := (volumeDb_mem_iff v).2 h
  have hi : (volumeDb v + 96).toNat < c.val.gainTable.length := by rw [gainTable_length]; omega
  refine ⟨_, ?_, List.getElem?_eq_getElem hi⟩
  simp [lookup, hv, List.getElem?_eq_getElem hi]

/-- A volume outside the table has no gain (46 R379's assert). -/
theorem lookup_of_not_inTable (c : Config) {v : BitVec 16} (h : ¬InTable v) : lookup c v = none :=
  if_neg (mt (volumeDb_mem_iff v).1 h)

/-- The gain of a side: 0 where it is muted, else the volume's. -/
@[simp] theorem sideGain_muted (c : Config) (v : BitVec 16) : sideGain c true v = some 0 := rfl
@[simp] theorem sideGain_unmuted (c : Config) (v : BitVec 16) : sideGain c false v = lookup c v := rfl

/-- The three gains are those of the sides and the master, where each has one (46 R381). -/
theorem gains_eq_some {c : Config} {ch : Channels} {gL gR gM : BitVec 32} :
    gains c ch = some (gL, gR, gM) ↔
      sideGain c (effLeft ch) ch.left.volume = some gL ∧ sideGain c (effRight ch) ch.right.volume = some gR ∧
      lookup c ch.master.volume = some gM := by
  simp [gains, Option.bind_eq_some_iff]

/-- Where the volumes it looks up are in the table, a mixer call has its gains. -/
theorem gains_isSome (c : WfConfig) {ch : Channels} (h : VolumesInTable ch) : ∃ g, gains c.val ch = some g := by
  have side : ∀ (m : Bool) (v : BitVec 16), (m = false → InTable v) → ∃ g, sideGain c.val m v = some g := by
    intro m v hv
    cases m with
    | true => exact ⟨0, rfl⟩
    | false => exact (lookup_of_inTable c (hv rfl)).imp fun _ h => h.1
  obtain ⟨gL, hL⟩ := side (effLeft ch) ch.left.volume fun e => by
    simp only [effLeft, Bool.or_eq_false_iff] at e; exact h.left e.1 e.2
  obtain ⟨gR, hR⟩ := side (effRight ch) ch.right.volume fun e => by
    simp only [effRight, Bool.or_eq_false_iff] at e; exact h.right e.1 e.2
  obtain ⟨gM, hM, -⟩ := lookup_of_inTable c h.master
  exact ⟨(gL, gR, gM), gains_eq_some.2 ⟨hL, hR, hM⟩⟩

/-- Where one of them is not, it has none. -/
theorem gains_eq_none {c : Config} {ch : Channels} (h : ¬VolumesInTable ch) : gains c ch = none := by
  refine Option.eq_none_iff_forall_ne_some.2 fun g hg => h ?_
  obtain ⟨gL, gR, gM⟩ := g
  obtain ⟨hL, hR, hM⟩ := gains_eq_some.1 hg
  have inTable : ∀ {v g}, lookup c v = some g → InTable v := fun {v g} e => by
    by_contra hv
    rw [lookup_of_not_inTable c hv] at e
    cases e
  refine ⟨fun hm hl => inTable (g := gL) ?_, fun hm hr => inTable (g := gR) ?_, inTable hM⟩
  · simpa [effLeft, hm, hl] using hL
  · simpa [effRight, hm, hr] using hR

end Sys2Proof.Machine
end

