-- ==== Sys2Proof/Laws/PerInstr.lean ====
section
/-! SUPPORT. A family of lemmas about every instruction: the setup word of an operation has the bits its row of
spec/opcode_table.json fixes (`mask` and `match`). An EVENT or PROC row has no bits (30 R150). -/

namespace Sys2Proof.Laws.TableMatch

set_option linter.unusedSimpArgs false

/-- The setup word `W = LE64(bytes)` (30 R121). -/
def word (p : SetupPacket) : BitVec 64 := p.length ++ p.index ++ p.value ++ p.request ++ p.requestType

/-- `mask` and `match` of the instruction's row; a setter's payload stage has no word. -/
def row : Instr → Option (BitVec 64 × BitVec 64)
  | .getStatus _ _ _ => some (0xFFFF, 0x80)
  | .getDescriptorDevice _ _ _ => some (0xFF00FFFF, 0x1000680)
  | .getDescriptorConfiguration _ _ _ => some (0xFF00FFFF, 0x2000680)
  | .getDescriptorString _ _ _ => some (0xFF00FFFF, 0x3000680)
  | .getDescriptorQualifier _ _ _ => some (0xFF00FFFF, 0x6000680)
  | .getDescriptorOther _ _ _ _ => some (0xFFFF, 0x680)
  | .setAddress _ _ _ => some (0xFFFF, 0x500)
  | .setConfiguration _ _ _ => some (0xFFFF, 0x900)
  | .setInterface _ _ _ => some (0xFFFF, 0xB01)
  | .epClear _ _ _ => some (0xFFBF, 0x102)
  | .classIn _ _ _ _ => some (0xFF, 0xA1)
  | .classInVendor _ _ _ _ => some (0xFF, 0xC1)
  | .classOut0 _ _ _ => some (0xFFFF0000000000FF, 0x21)
  | .classOut0Vendor _ _ _ => some (0xFFFF0000000000FF, 0x41)
  | .classOut _ _ _ _ => some (0xFF, 0x21)
  | .classOutVendor _ _ _ _ => some (0xFF, 0x41)
  | .classOutOversize _ _ _ _ _ => some (0x9F, 0x1)
  | .unhandled _ => some (0x0, 0x0)
  | .getCurVolume _ _ => some (0xFF00FFFF, 0x20001A1)
  | .getRangeVolume _ _ => some (0xFF00FFFF, 0x20002A1)
  | .getCurMute _ _ => some (0xFF00FFFF, 0x10001A1)
  | .getRangeMute _ _ => some (0xFF00FFFF, 0x10002A1)
  | .getCurFreq _ _ => some (0xFF00FFFF, 0x10001A1)
  | .getRangeFreq _ _ => some (0xFF00FFFF, 0x10002A1)
  | .setCurVolume _ _ => some (0xFF00FFFF, 0x2000121)
  | .setCurMute _ _ => some (0xFF00FFFF, 0x1000121)
  | .setCurFreq _ _ => some (0xFF00FFFF, 0x1000121)
  | .acUnhandledIn _ _ _ _ => some (0xFF, 0xA1)
  | .acUnhandledOut _ _ _ _ => some (0xFF, 0x21)
  | .evSetup _ | .evBufferDone _ _ _ | .evBusReset | .ep0InDoneData _ | .ep0InDoneStatus _ | .ep0OutDoneData _
  | .ep0Done _ _ | .streamOutDone _ | .feedbackInDone _ | .bufferReady | .push _ | .iterate | .tick | .resetPin
  | .dispatch _ | .ctrlInStart _ _ | .sendNextChunk | .ack | .raiseStall | .raiseFatal _ | .routeClass _
  | .invokeOutHandler _ _ | .pop | .handle _ | .readAndClearBufferReady | .activateConfiguration _
  | .computeLayout | .enableEndpoint _ | .disableEndpoint _ _ | .setAlternateSetting _ _
  | .startTransfer _ _ _ _ | .ringWrite _ _ | .ringRead _ | .ringFillRatio | .ringResize _ | .streamStart _
  | .streamStop | .tickStopped | .tickBuffering | .tickPlaying | .tickStalled | .onSamplesReceived _
  | .setIfCallbackAsIf _ | .unpack _ _ | .unpack16 _ | .unpack24 _ | .unpack32 _ | .lookup _ | .gains
  | .scale _ _ _ | .mix _ _ | .mixFrame16 _ _ _ _ | .mixFrame24 _ _ _ _ | .mixFrame32 _ _ _ _ | .fbStep => none

/-- The word of the encoded operation, under the mask of its row, is the row's match; the endpoint clear request's code
is the default of 30 R128. -/
def Statement (i : Instr) : Prop :=
  ∀ (c : Config) (p : SetupPacket) (m : BitVec 64 × BitVec 64), c.reqClear = 1 →
    encodePacket c i = some p → row i = some m → word p &&& m.1 = m.2

/-- A masked word is compared field by field. -/
theorem word_and (p : SetupPacket) (m t : BitVec 64)
    (hl : p.length &&& m.extractLsb' 48 16 = t.extractLsb' 48 16)
    (hi : p.index &&& m.extractLsb' 32 16 = t.extractLsb' 32 16)
    (hv : p.value &&& m.extractLsb' 16 16 = t.extractLsb' 16 16)
    (hr : p.request &&& m.extractLsb' 8 8 = t.extractLsb' 8 8)
    (ht : p.requestType &&& m.extractLsb' 0 8 = t.extractLsb' 0 8) : word p &&& m = t := by
  have split : ∀ x : BitVec 64, x = (x.extractLsb' 48 16 ++ x.extractLsb' 32 16 ++ x.extractLsb' 16 16
      ++ x.extractLsb' 8 8 ++ x.extractLsb' 0 8 : BitVec 64) := by
    intro x
    apply BitVec.eq_of_getLsbD_eq
    intro k hk
    simp only [BitVec.getLsbD_append, BitVec.getLsbD_extractLsb']
    split_ifs <;> (rw [decide_eq_true (by omega), Bool.true_and]; congr 1; omega)
  rw [split t, ← hl, ← hi, ← hv, ← hr, ← ht]
  conv_lhs => rw [split m]
  exact BitVec.and_append.trans (congrArg (· ++ _) (BitVec.and_append.trans (congrArg (· ++ _)
    (BitVec.and_append.trans (congrArg (· ++ _) BitVec.and_append)))))

/-- The high byte of a 16-bit field, under the mask of the high byte. -/
theorem field_and (hi lo : Byte) : mkField hi lo &&& 0xFF00#16 = mkField hi 0 := by
  have h : 0xFF00#16 = (0xFF : BitVec 8) ++ (0x00 : BitVec 8) := by decide
  rw [mkField, h, BitVec.and_append, mkField]
  congr 1
  · exact BitVec.and_allOnes
  · exact BitVec.and_zero

/-- A row without bits, or a stage without a word. -/
theorem of_none {i : Instr} (h : row i = none) : Statement i := by
  intro c p m _ _ hm
  rw [h] at hm
  cases hm

/-- A row with one packet: the packet's word is compared. -/
theorem of_packet {i : Instr} {q : Config → SetupPacket} {m : BitVec 64 × BitVec 64}
    (hp : ∀ c, encodePacket c i = some (q c)) (hm : row i = some m)
    (h : ∀ c : Config, c.reqClear = 1 → word (q c) &&& m.1 = m.2) : Statement i := by
  intro c p m' hc h1 h2
  rw [hp c] at h1
  rw [hm] at h2
  cases h1
  cases h2
  exact h c hc

theorem getStatus a b c : Statement (.getStatus a b c) := by
  refine of_packet (fun _ => rfl) rfl fun c hc => word_and _ _ _ ?_ ?_ ?_ ?_ ?_
  all_goals simp [acPacket, interfacePacket, getDescriptorPacket, field_and, hc]; try decide

theorem getDescriptorDevice a b c : Statement (.getDescriptorDevice a b c) := by
  refine of_packet (fun _ => rfl) rfl fun c hc => word_and _ _ _ ?_ ?_ ?_ ?_ ?_
  all_goals simp [acPacket, interfacePacket, getDescriptorPacket, field_and, hc]; try decide

theorem getDescriptorConfiguration a b c : Statement (.getDescriptorConfiguration a b c) := by
  refine of_packet (fun _ => rfl) rfl fun c hc => word_and _ _ _ ?_ ?_ ?_ ?_ ?_
  all_goals simp [acPacket, interfacePacket, getDescriptorPacket, field_and, hc]; try decide

theorem getDescriptorString a b c : Statement (.getDescriptorString a b c) := by
  refine of_packet (fun _ => rfl) rfl fun c hc => word_and _ _ _ ?_ ?_ ?_ ?_ ?_
  all_goals simp [acPacket, interfacePacket, getDescriptorPacket, field_and, hc]; try decide

theorem getDescriptorQualifier a b c : Statement (.getDescriptorQualifier a b c) := by
  refine of_packet (fun _ => rfl) rfl fun c hc => word_and _ _ _ ?_ ?_ ?_ ?_ ?_
  all_goals simp [acPacket, interfacePacket, getDescriptorPacket, field_and, hc]; try decide

theorem getDescriptorOther a b c d : Statement (.getDescriptorOther a b c d) := by
  refine of_packet (fun _ => rfl) rfl fun c hc => word_and _ _ _ ?_ ?_ ?_ ?_ ?_
  all_goals simp [acPacket, interfacePacket, getDescriptorPacket, field_and, hc]; try decide

theorem setAddress a b c : Statement (.setAddress a b c) := by
  refine of_packet (fun _ => rfl) rfl fun c hc => word_and _ _ _ ?_ ?_ ?_ ?_ ?_
  all_goals simp [acPacket, interfacePacket, getDescriptorPacket, field_and, hc]; try decide

theorem setConfiguration a b c : Statement (.setConfiguration a b c) := by
  refine of_packet (fun _ => rfl) rfl fun c hc => word_and _ _ _ ?_ ?_ ?_ ?_ ?_
  all_goals simp [acPacket, interfacePacket, getDescriptorPacket, field_and, hc]; try decide

theorem setInterface a b c : Statement (.setInterface a b c) := by
  refine of_packet (fun _ => rfl) rfl fun c hc => word_and _ _ _ ?_ ?_ ?_ ?_ ?_
  all_goals simp [acPacket, interfacePacket, getDescriptorPacket, field_and, hc]; try decide

theorem epClear a b c : Statement (.epClear a b c) := by
  refine of_packet (fun _ => rfl) rfl fun c hc => word_and _ _ _ ?_ ?_ ?_ ?_ ?_
  all_goals (cases a <;> simp [interfacePacket, hc] <;> decide)

theorem classIn a b c d : Statement (.classIn a b c d) := by
  refine of_packet (fun _ => rfl) rfl fun c hc => word_and _ _ _ ?_ ?_ ?_ ?_ ?_
  all_goals simp [acPacket, interfacePacket, getDescriptorPacket, field_and, hc]; try decide

theorem classInVendor a b c d : Statement (.classInVendor a b c d) := by
  refine of_packet (fun _ => rfl) rfl fun c hc => word_and _ _ _ ?_ ?_ ?_ ?_ ?_
  all_goals simp [acPacket, interfacePacket, getDescriptorPacket, field_and, hc]; try decide

theorem classOut0 a b c : Statement (.classOut0 a b c) := by
  refine of_packet (fun _ => rfl) rfl fun c hc => word_and _ _ _ ?_ ?_ ?_ ?_ ?_
  all_goals simp [acPacket, interfacePacket, getDescriptorPacket, field_and, hc]; try decide

theorem classOut0Vendor a b c : Statement (.classOut0Vendor a b c) := by
  refine of_packet (fun _ => rfl) rfl fun c hc => word_and _ _ _ ?_ ?_ ?_ ?_ ?_
  all_goals simp [acPacket, interfacePacket, getDescriptorPacket, field_and, hc]; try decide

theorem classOut a b c d : Statement (.classOut a b c d) := by
  refine of_packet (fun _ => rfl) rfl fun c hc => word_and _ _ _ ?_ ?_ ?_ ?_ ?_
  all_goals simp [acPacket, interfacePacket, getDescriptorPacket, field_and, hc]; try decide

theorem classOutVendor a b c d : Statement (.classOutVendor a b c d) := by
  refine of_packet (fun _ => rfl) rfl fun c hc => word_and _ _ _ ?_ ?_ ?_ ?_ ?_
  all_goals simp [acPacket, interfacePacket, getDescriptorPacket, field_and, hc]; try decide

theorem classOutOversize a b c d e : Statement (.classOutOversize a b c d e) := by
  refine of_packet (fun _ => rfl) rfl fun c hc => word_and _ _ _ ?_ ?_ ?_ ?_ ?_
  all_goals (cases a <;> simp [interfacePacket, hc] <;> decide)

theorem unhandled a : Statement (.unhandled a) := by
  refine of_packet (fun _ => rfl) rfl fun c hc => word_and _ _ _ ?_ ?_ ?_ ?_ ?_
  all_goals simp [acPacket, interfacePacket, getDescriptorPacket, field_and, hc]; try decide

theorem getCurVolume a b : Statement (.getCurVolume a b) := by
  refine of_packet (fun _ => rfl) rfl fun c hc => word_and _ _ _ ?_ ?_ ?_ ?_ ?_
  all_goals simp [acPacket, interfacePacket, getDescriptorPacket, field_and, hc]; try decide

theorem getRangeVolume a b : Statement (.getRangeVolume a b) := by
  refine of_packet (fun _ => rfl) rfl fun c hc => word_and _ _ _ ?_ ?_ ?_ ?_ ?_
  all_goals simp [acPacket, interfacePacket, getDescriptorPacket, field_and, hc]; try decide

theorem getCurMute a b : Statement (.getCurMute a b) := by
  refine of_packet (fun _ => rfl) rfl fun c hc => word_and _ _ _ ?_ ?_ ?_ ?_ ?_
  all_goals simp [acPacket, interfacePacket, getDescriptorPacket, field_and, hc]; try decide

theorem getRangeMute a b : Statement (.getRangeMute a b) := by
  refine of_packet (fun _ => rfl) rfl fun c hc => word_and _ _ _ ?_ ?_ ?_ ?_ ?_
  all_goals simp [acPacket, interfacePacket, getDescriptorPacket, field_and, hc]; try decide

theorem getCurFreq a b : Statement (.getCurFreq a b) := by
  refine of_packet (fun _ => rfl) rfl fun c hc => word_and _ _ _ ?_ ?_ ?_ ?_ ?_
  all_goals simp [acPacket, interfacePacket, getDescriptorPacket, field_and, hc]; try decide

theorem getRangeFreq a b : Statement (.getRangeFreq a b) := by
  refine of_packet (fun _ => rfl) rfl fun c hc => word_and _ _ _ ?_ ?_ ?_ ?_ ?_
  all_goals simp [acPacket, interfacePacket, getDescriptorPacket, field_and, hc]; try decide

theorem setCurVolume a (stage) : Statement (.setCurVolume a stage) := by
  cases stage with
  | payload _ => intro c p m _ h _; cases h
  | setup l =>
    refine of_packet (fun _ => rfl) rfl fun c _ => word_and _ _ _ ?_ ?_ ?_ ?_ ?_
    all_goals simp [acPacket, field_and]; try decide

theorem setCurMute a (stage) : Statement (.setCurMute a stage) := by
  cases stage with
  | payload _ => intro c p m _ h _; cases h
  | setup l =>
    refine of_packet (fun _ => rfl) rfl fun c _ => word_and _ _ _ ?_ ?_ ?_ ?_ ?_
    all_goals simp [acPacket, field_and]; try decide

theorem setCurFreq a (stage) : Statement (.setCurFreq a stage) := by
  cases stage with
  | payload _ => intro c p m _ h _; cases h
  | setup l =>
    refine of_packet (fun _ => rfl) rfl fun c _ => word_and _ _ _ ?_ ?_ ?_ ?_ ?_
    all_goals simp [acPacket, field_and]; try decide

theorem acUnhandledIn a b c d : Statement (.acUnhandledIn a b c d) := by
  refine of_packet (fun _ => rfl) rfl fun c hc => word_and _ _ _ ?_ ?_ ?_ ?_ ?_
  all_goals simp [acPacket, interfacePacket, getDescriptorPacket, field_and, hc]; try decide

theorem acUnhandledOut a b c (stage) : Statement (.acUnhandledOut a b c stage) := by
  cases stage with
  | payload _ => intro c p m _ h _; cases h
  | setup l =>
    refine of_packet (fun _ => rfl) rfl fun c _ => word_and _ _ _ ?_ ?_ ?_ ?_ ?_
    all_goals simp [acPacket, field_and]; try decide

theorem evSetup a : Statement (.evSetup a) := of_none rfl
theorem evBufferDone a b c : Statement (.evBufferDone a b c) := of_none rfl
theorem evBusReset : Statement (.evBusReset) := of_none rfl
theorem ep0InDoneData a : Statement (.ep0InDoneData a) := of_none rfl
theorem ep0InDoneStatus a : Statement (.ep0InDoneStatus a) := of_none rfl
theorem ep0OutDoneData a : Statement (.ep0OutDoneData a) := of_none rfl
theorem ep0Done a b : Statement (.ep0Done a b) := of_none rfl
theorem streamOutDone a : Statement (.streamOutDone a) := of_none rfl
theorem feedbackInDone a : Statement (.feedbackInDone a) := of_none rfl
theorem bufferReady : Statement (.bufferReady) := of_none rfl
theorem push a : Statement (.push a) := of_none rfl
theorem iterate : Statement (.iterate) := of_none rfl
theorem tick : Statement (.tick) := of_none rfl
theorem resetPin : Statement (.resetPin) := of_none rfl
theorem dispatch a : Statement (.dispatch a) := of_none rfl
theorem ctrlInStart a b : Statement (.ctrlInStart a b) := of_none rfl
theorem sendNextChunk : Statement (.sendNextChunk) := of_none rfl
theorem ack : Statement (.ack) := of_none rfl
theorem raiseStall : Statement (.raiseStall) := of_none rfl
theorem raiseFatal a : Statement (.raiseFatal a) := of_none rfl
theorem routeClass a : Statement (.routeClass a) := of_none rfl
theorem invokeOutHandler a b : Statement (.invokeOutHandler a b) := of_none rfl
theorem pop : Statement (.pop) := of_none rfl
theorem handle a : Statement (.handle a) := of_none rfl
theorem readAndClearBufferReady : Statement (.readAndClearBufferReady) := of_none rfl
theorem activateConfiguration a : Statement (.activateConfiguration a) := of_none rfl
theorem computeLayout : Statement (.computeLayout) := of_none rfl
theorem enableEndpoint a : Statement (.enableEndpoint a) := of_none rfl
theorem disableEndpoint a b : Statement (.disableEndpoint a b) := of_none rfl
theorem setAlternateSetting a b : Statement (.setAlternateSetting a b) := of_none rfl
theorem startTransfer a b c d : Statement (.startTransfer a b c d) := of_none rfl
theorem ringWrite a b : Statement (.ringWrite a b) := of_none rfl
theorem ringRead a : Statement (.ringRead a) := of_none rfl
theorem ringFillRatio : Statement (.ringFillRatio) := of_none rfl
theorem ringResize a : Statement (.ringResize a) := of_none rfl
theorem streamStart a : Statement (.streamStart a) := of_none rfl
theorem streamStop : Statement (.streamStop) := of_none rfl
theorem tickStopped : Statement (.tickStopped) := of_none rfl
theorem tickBuffering : Statement (.tickBuffering) := of_none rfl
theorem tickPlaying : Statement (.tickPlaying) := of_none rfl
theorem tickStalled : Statement (.tickStalled) := of_none rfl
theorem onSamplesReceived a : Statement (.onSamplesReceived a) := of_none rfl
theorem setIfCallbackAsIf a : Statement (.setIfCallbackAsIf a) := of_none rfl
theorem unpack a b : Statement (.unpack a b) := of_none rfl
theorem unpack16 a : Statement (.unpack16 a) := of_none rfl
theorem unpack24 a : Statement (.unpack24 a) := of_none rfl
theorem unpack32 a : Statement (.unpack32 a) := of_none rfl
theorem lookup a : Statement (.lookup a) := of_none rfl
theorem gains : Statement (.gains) := of_none rfl
theorem scale a b c : Statement (.scale a b c) := of_none rfl
theorem mix a b : Statement (.mix a b) := of_none rfl
theorem mixFrame16 a b c d : Statement (.mixFrame16 a b c d) := of_none rfl
theorem mixFrame24 a b c d : Statement (.mixFrame24 a b c d) := of_none rfl
theorem mixFrame32 a b c d : Statement (.mixFrame32 a b c d) := of_none rfl
theorem fbStep : Statement (.fbStep) := of_none rfl

end Sys2Proof.Laws.TableMatch
end

