-- ==== Sys2Proof/Laws/Ring.lean ====
section
/-! SUPPORT. The ring buffer: bounds of its derived quantities, and everything write, read and resize can do. -/

namespace Sys2Proof.Machine

/-- `count ≤ size` (44 R312). -/
theorem ringCount_le {rb : RingBuffer} (h : RingOk rb) : ringCount rb ≤ rb.size := by
  unfold ringCount
  split
  · exact le_rfl
  · exact (Nat.mod_lt _ h.size_pos).le

/-- `fillRatio` is in [0, 1] (44 R320). -/
theorem fillRatio_bounds {rb : RingBuffer} (h : RingOk rb) : 0 ≤ fillRatio rb ∧ fillRatio rb ≤ 1 := by
  have hs : (0 : Rat) < rb.size := by exact_mod_cast h.size_pos
  refine ⟨by unfold fillRatio; positivity, ?_⟩
  unfold fillRatio
  rw [div_le_one hs]
  exact_mod_cast ringCount_le h

/-- The bytes of a ring write touch no field but the storage. -/
theorem storeRing_eq_ok {size i : Nat} {b : Bytes} {s t : State} {u : Unit} (h : storeRing size i b s = .ok u t) :
    ∃ m, t = { s with rb := { s.rb with storage := m } } ∧ (s.rb.storage.wf → m.wf) := by
  induction b generalizing i s with
  | nil => cases h; exact ⟨_, rfl, id⟩
  | cons x r ih =>
    rw [storeRing] at h
    obtain ⟨_, v, hv, hk⟩ := bind_eq_ok h
    obtain ⟨rfl, _⟩ := memWrite_eq_ok hv
    obtain ⟨m, rfl, hm⟩ := ih hk
    exact ⟨m, rfl, fun hw => hm (writeN_wf hw _ _)⟩

/-- The reads of a ring read write nothing. -/
theorem loadRing_eq_ok {size i k : Nat} {b : Bytes} {s t : State} (h : loadRing size i k s = .ok b t) :
    t = s ∧ b.length = k ∧ ∀ j < k, s.rb.storage.read ((i + j) % size) = b[j]? := by
  induction k generalizing i b t with
  | zero => cases h; exact ⟨rfl, rfl, fun j hj => absurd hj (Nat.not_lt_zero j)⟩
  | succ k ih =>
    rw [loadRing] at h
    obtain ⟨x, v, hv, hk⟩ := bind_eq_ok h
    obtain ⟨rfl, hx⟩ := memRead_eq_ok hv
    obtain ⟨r, w, hw, hr⟩ := bind_eq_ok hk
    obtain ⟨rfl, hl, hj⟩ := ih hw
    cases hr
    obtain ⟨hxl, hx0⟩ := readN_eq_some hx
    obtain ⟨y, rfl⟩ := List.length_eq_one_iff.1 hxl
    refine ⟨rfl, by simp [hl], fun j hj' => ?_⟩
    cases j with
    | zero => simpa [State.mem] using hx0 0 (by omega)
    | succ j =>
      have := hj j (by omega)
      simpa [show i + (j + 1) = i + 1 + j by omega] using this

/-- Everything a ring write can do (44 R314). -/
theorem ringWrite_eq_ok {data : Bytes} {n k : Nat} {s t : State} (h : ringWrite data n s = .ok k t) :
    n ≤ data.length ∧ k = min n (ringSpace s.rb) ∧
    ∃ m, (s.rb.storage.wf → m.wf) ∧ t = { s with rb := { s.rb with
      storage := m, tail := (s.rb.tail + k) % s.rb.size
      fullFlag := fullAfterWrite s.rb k ((s.rb.tail + k) % s.rb.size) } } := by
  unfold ringWrite at h
  split at h
  · cases h
  · next hl =>
    obtain ⟨_, v, hv, hk⟩ := bind_eq_ok h
    obtain ⟨m, rfl, hm⟩ := storeRing_eq_ok hv
    cases hk
    exact ⟨by omega, rfl, m, hm, rfl⟩

/-- Everything a ring read can do (44 R318). -/
theorem ringRead_eq_ok {n : Nat} {b : Bytes} {s t : State} (h : ringRead n s = .ok b t) :
    b.length = min n (ringCount s.rb) ∧
    (∀ j < b.length, s.rb.storage.read ((s.rb.head + j) % s.rb.size) = b[j]?) ∧
    t = { s with rb := { s.rb with
      head := (s.rb.head + b.length) % s.rb.size, fullFlag := fullAfterRead s.rb b.length } } := by
  unfold ringRead at h
  obtain ⟨x, v, hv, hk⟩ := bind_eq_ok h
  obtain ⟨rfl, hl, hj⟩ := loadRing_eq_ok hv
  cases hk
  exact ⟨hl, hl ▸ hj, by rw [hl]⟩

/-- Everything `resize` can do (44 R322). -/
theorem ringResize_eq_ok {newSize : Nat} {s t : State} {u : Unit} (h : ringResize newSize s = .ok u t) :
    1 ≤ newSize ∧ ((newSize = s.rb.size ∧ t = s) ∨ (newSize ≠ s.rb.size ∧ t = { s with rb := {
      storage := if s.rb.capacity < newSize then [] else s.rb.storage
      size := newSize, capacity := max s.rb.capacity newSize, head := 0, tail := 0, fullFlag := false } })) := by
  unfold ringResize at h
  split at h
  · cases h
  · next h0 =>
    refine ⟨by omega, ?_⟩
    split at h
    · next hs => cases h; exact .inl ⟨hs, rfl⟩
    · next hs =>
      cases h
      refine .inr ⟨hs, ?_⟩
      by_cases hc : s.rb.capacity < newSize
      · simp [hc, Nat.max_eq_right hc.le]
      · simp [hc, Nat.max_eq_left (Nat.le_of_not_lt hc)]

end Sys2Proof.Machine
end

