-- ==== Sys2Proof/Tests/Slice0.lean ====
section
/-! SUPPORT. Tests. Expected values are hand-read from the spec: encodings from spec/30_encoding.md R121 to R133,
step results from the vectors of spec/95_test_vectors.md (named V-…) or from the rule cited. -/

namespace Sys2Proof.Tests

open Sys2Proof.Machine

set_option Elab.async false

/-- A field (or several) of the next state; none where there is no next state. -/
def after {α : Type} (o : Machine.Outcome) (f : State → α) : Option α :=
  match o with
  | .next t => some (f t)
  | .fault _ => none
  | .refused _ => none

/-- The commands the operation appended. -/
def emits (i : Instr) (s : State) : Option (List Cmd) := after (exec i s) fun t => t.trace.drop s.trace.length

/-- The refusal an operation ends in. -/
def refusal (o : Machine.Outcome) : Option Refusal :=
  match o with
  | .next _ => none
  | .fault _ => none
  | .refused r => some r

/-! ## States -/

/-- After R170's writes for a setup packet. -/
def accepted : State := acceptSetup ⟨0x80, 0, 0, 0, 2⟩ State.reset

/-- "Configured" of 95 Part 1, as far as the tests use it. -/
def configured : State := { accepted with activeConfig := 1, bufLayout := [(1, 0), (129, 448)] }

/-- The state V-CD16 leaves, as far as the tests use it. -/
def streaming : State :=
  { configured with
    altSetting := [0, 1], format := some .s16, pstate := .buffering
    epOut := configured.epOut.set 1 ⟨.isochronous, 196, 0, .data1, true, some (.fresh 196 .data0)⟩
    epIn := configured.epIn.set 1 ⟨.isochronous, 4, 448, .data1, true, some (.fresh 4 .data0)⟩ }

/-- A ring buffer of 200 bytes holding `b`, read index 0. -/
def ringOf (b : Bytes) : RingBuffer := ⟨Memory.writeN [] 0 b, 200, 200, 0, b.length, false⟩

/-- Playing in 16-bit format with `b` buffered and a free hardware buffer. -/
def playing (b : Bytes) : State := { streaming with pstate := .playing, bufferReady := true, rb := ringOf b }

/-- A record with one external slot, 2, that holds all three procedures, and GET_RANGE_MUTE answered. -/
def extRecord : Config :=
  { tcfgRecord with
    nIfSlots := 3, configItems := tcfgItems ++ [.iface 2 0], extHandlers := [⟨2, true, true, true⟩], muteRangeReply := some [0x01, 0x00, 0x00, 0x01, 0x01] }

theorem extRecord_wf : extRecord.wf = true := by decide +kernel

/-- The machine after reset under `extRecord`, a configuration active. -/
def external : State :=
  { acceptSetup ⟨0x80, 0, 0, 0, 2⟩ (State.resetOf ⟨extRecord, extRecord_wf⟩) with
    activeConfig := 1, bufLayout := [(1, 0), (129, 448)] }

/-- Halted by an oversized payload. -/
def halted : State := { streaming with fatal := some .oversizeOut }

/-! ## Well-formedness: a term each check refuses -/

/-- A record that differs from TCFG in one field is refused. -/
def refuses (f : Config → Config) : Bool := !(f tcfgRecord).wf

theorem test_wf_refuses_sizes :
    refuses (fun c => { c with qCap := 0 }) ∧ refuses (fun c => { c with maxEventsPerIter := 0 }) ∧
    refuses (fun c => { c with nIfSlots := 0 }) ∧ refuses (fun c => { c with sharedCapacity := 500 }) ∧
    refuses (fun c => { c with deviceDescriptor := [] }) ∧ refuses (fun c => { c with configValue := 0 }) ∧
    refuses (fun c => { c with periodFrames := 0 }) ∧ refuses (fun c => { c with initRate := 12345 }) ∧
    refuses (fun c => { c with initRingSize := 0 }) := by decide +kernel

theorem test_wf_refuses_parameters :
    refuses (fun c => { c with gainTable := [] }) ∧
    refuses (fun c => { c with gainTable := c.gainTable.set 96 0x80000001 }) ∧
    refuses (fun c => { c with gainTable := c.gainTable.set 3 1 }) ∧
    refuses (fun c => { c with ringSizes := [(.s16, 44100, 0)] }) ∧ refuses (fun c => { c with ringSize16 := 0 }) ∧
    refuses (fun c => { c with ringSize24 := 0 }) ∧ refuses (fun c => { c with ringSize32 := 0 }) ∧
    refuses (fun c => { c with altFormats := [(0, .s16)] }) ∧ refuses (fun c => { c with asIf := 0 }) ∧
    refuses (fun c => { c with acIf := 2 }) ∧ refuses (fun c => { c with asIf := 2 }) ∧
    refuses (fun c => { c with clkId := 2 }) ∧ refuses (fun c => { c with epStreamOut := 0 }) ∧
    refuses (fun c => { c with epFbIn := 0 }) := by decide +kernel

theorem test_wf_refuses_handlers :
    refuses (fun c => { c with extHandlers := [⟨0, true, false, false⟩] }) ∧
    refuses (fun c => { c with extHandlers := [⟨1, true, false, false⟩] }) ∧
    refuses (fun c => { c with extHandlers := [⟨2, true, false, false⟩] }) := by decide +kernel

/-- R10's clauses on the descriptor list, in its order. -/
theorem test_wf_refuses_items :
    refuses (fun c => { c with configItems := .ep ⟨1, .IN, .bulk, 64⟩ :: c.configItems }) ∧
    refuses (fun c => { c with configItems := [.iface 0 0, .iface 0 0] }) ∧
    refuses (fun c => { c with configItems := [.iface 0 1] }) ∧
    refuses (fun c => { c with configItems := [.iface 2 0] }) ∧
    refuses (fun c => { c with configItems := [.iface 0 0, .ep ⟨0, .IN, .bulk, 64⟩] }) ∧
    refuses (fun c => { c with configItems := [.iface 0 0, .ep ⟨1, .IN, .bulk, 65⟩] }) ∧
    refuses (fun c => { c with configItems := [.iface 0 0, .ep ⟨1, .IN, .isochronous, 1024⟩] }) ∧
    refuses (fun c => { c with configItems := [.iface 0 0, .ep ⟨1, .IN, .bulk, 8⟩, .ep ⟨1, .IN, .bulk, 8⟩] }) ∧
    refuses (fun c => { c with
      configItems := [.iface 0 0, .iface 1 0, .ep ⟨1, .IN, .bulk, 8⟩, .iface 0 1, .ep ⟨1, .IN, .bulk, 8⟩] }) := by
  decide +kernel

/-- The boot check refuses an ill-formed record (70 R505). -/
theorem test_boot_refuses : WfConfig.ofConfig { tcfgRecord with qCap := 0 } = none := by decide +kernel

theorem test_instr_wf_refuses_setup :
    Instr.wf tcfgRecord (.getDescriptorOther 1 0 0 0) = false ∧ Instr.wf tcfgRecord (.getDescriptorOther 6 0 0 0) = false ∧
    Instr.wf tcfgRecord (.getDescriptorOther 2 0 0 0) = false ∧ Instr.wf tcfgRecord (.getDescriptorOther 3 0 0 0) = false ∧
    Instr.wf tcfgRecord (.classIn 1 0 0x0200 2) = false ∧ Instr.wf tcfgRecord (.classOut0 1 0 0x0200) = false ∧
    Instr.wf tcfgRecord (.classOut 1 0 0x0200 2) = false ∧ Instr.wf tcfgRecord (.classOut 1 0 1 0) = false ∧
    Instr.wf extRecord (.classOut 1 0 2 65) = false ∧ Instr.wf tcfgRecord (.classOutVendor 1 0 1 0) = false ∧
    Instr.wf tcfgRecord (.classOutVendor 1 0 0 65) = false ∧ Instr.wf tcfgRecord (.classOutOversize false 1 0 0 64) = false ∧
    Instr.wf tcfgRecord (.classOutOversize false 1 0 1 65) = false ∧ Instr.wf tcfgRecord (.unhandled ⟨0x80, 6, 0, 0, 0⟩) = false ∧
    Instr.wf tcfgRecord (.setCurVolume .left (.setup 65)) = false ∧ Instr.wf tcfgRecord (.setCurMute .left (.setup 65)) = false ∧
    Instr.wf tcfgRecord (.setCurFreq 0 (.setup 65)) = false ∧ Instr.wf tcfgRecord (.acUnhandledIn 2 0x0200 2 8) = false ∧
    Instr.wf tcfgRecord (.acUnhandledOut 1 0x0200 2 (.setup 2)) = false ∧
    Instr.wf tcfgRecord (.acUnhandledOut 9 0x0200 2 (.setup 65)) = false := by decide +kernel

theorem test_instr_wf_refuses_procedures :
    Instr.wf tcfgRecord (.ctrlInStart [] 1) = false ∧ Instr.wf tcfgRecord (.invokeOutHandler ⟨0x21, 1, 0, 1, 2⟩ []) = false ∧
    Instr.wf tcfgRecord (.enableEndpoint ⟨0, .IN, .bulk, 8⟩) = false ∧ Instr.wf tcfgRecord (.startTransfer 1 .IN [] 1) = false ∧
    Instr.wf tcfgRecord (.ringWrite [] 1) = false ∧ Instr.wf tcfgRecord (.ringResize 0) = false ∧
    Instr.wf tcfgRecord (.lookup 0x9F00) = false ∧ Instr.wf tcfgRecord (.lookup 0x0100) = false ∧
    Instr.wf tcfgRecord (.scale 1 0x80000001 0) = false ∧ Instr.wf tcfgRecord (.scale 1 0 0x80000001) = false ∧
    Instr.wf tcfgRecord (.mixFrame16 [] 0 0 0) = false ∧ Instr.wf tcfgRecord (.mixFrame24 [] 0 0 0) = false ∧
    Instr.wf tcfgRecord (.mixFrame32 [] 0 0 0) = false := by decide +kernel

/-! ## Decoding: every setup constructor from a packet written out byte by byte (30 R121 to R133) -/

/-- The row TCFG's decoder reads from eight bytes. -/
def row (b : Bytes) : Option Instr := (decode Config.tcfg.val b).toOption

theorem test_decode_device_in :
    row [0x80, 0x00, 0x34, 0x12, 0x78, 0x56, 0x02, 0x01] = some (.getStatus 0x1234 0x5678 0x0102) ∧
    row [0x80, 0x06, 0x07, 0x01, 0x78, 0x56, 0x12, 0x00] = some (.getDescriptorDevice 7 0x5678 18) ∧
    row [0x80, 0x06, 0x00, 0x02, 0x00, 0x00, 0xFF, 0x01] = some (.getDescriptorConfiguration 0 0 0x01FF) ∧
    row [0x80, 0x06, 0x02, 0x03, 0x09, 0x04, 0xFF, 0x00] = some (.getDescriptorString 2 0x0409 255) ∧
    row [0x80, 0x06, 0x00, 0x06, 0x00, 0x00, 0x0A, 0x00] = some (.getDescriptorQualifier 0 0 10) ∧
    row [0x80, 0x06, 0x03, 0x0F, 0x00, 0x00, 0x05, 0x00] = some (.getDescriptorOther 0x0F 3 0 5) := by decide +kernel

theorem test_decode_standard_out :
    row [0x00, 0x05, 0x85, 0x01, 0x00, 0x00, 0x00, 0x00] = some (.setAddress 0x0185 0 0) ∧
    row [0x00, 0x09, 0x01, 0x00, 0x00, 0x00, 0x00, 0x00] = some (.setConfiguration 1 0 0) ∧
    row [0x01, 0x0B, 0x02, 0x00, 0x01, 0x00, 0x00, 0x00] = some (.setInterface 2 1 0) ∧
    row [0x02, 0x01, 0x34, 0x12, 0x01, 0x00, 0x00, 0x00] = some (.epClear false 0x1234 0) ∧
    row [0x42, 0x01, 0x00, 0x00, 0x01, 0x00, 0x07, 0x00] = some (.epClear true 0 7) ∧
    row [0x02, 0x01, 0x00, 0x00, 0x02, 0x00, 0x00, 0x00] = some (.unhandled ⟨0x02, 1, 0, 2, 0⟩) := by decide +kernel

theorem test_decode_class :
    row [0xA1, 0x01, 0x00, 0x02, 0x01, 0x02, 0x02, 0x00] = some (.classIn 1 0x0200 0x0201 2) ∧
    row [0xC1, 0x01, 0x00, 0x02, 0x00, 0x02, 0x02, 0x00] = some (.classInVendor 1 0x0200 0x0200 2) ∧
    row [0x21, 0x01, 0x00, 0x02, 0x01, 0x02, 0x00, 0x00] = some (.classOut0 1 0x0200 0x0201) ∧
    row [0x41, 0x01, 0x00, 0x02, 0x00, 0x02, 0x00, 0x00] = some (.classOut0Vendor 1 0x0200 0x0200) ∧
    row [0x21, 0x01, 0x00, 0x02, 0x01, 0x02, 0x41, 0x00] = some (.classOut 1 0x0200 0x0201 65) ∧
    row [0x41, 0x01, 0x00, 0x02, 0x00, 0x02, 0x40, 0x00] = some (.classOutVendor 1 0x0200 0x0200 64) ∧
    row [0x21, 0x01, 0x00, 0x02, 0x00, 0x02, 0x41, 0x00] = some (.classOutOversize false 1 0x0200 0x0200 65) ∧
    row [0x41, 0x01, 0x00, 0x02, 0x00, 0x02, 0x41, 0x00] = some (.classOutOversize true 1 0x0200 0x0200 65) := by
  decide +kernel

theorem test_decode_audio_in :
    row [0xA1, 0x01, 0x01, 0x02, 0x00, 0x02, 0x02, 0x00] = some (.getCurVolume .left 2) ∧
    row [0xA1, 0x02, 0x02, 0x02, 0x00, 0x02, 0x08, 0x00] = some (.getRangeVolume .right 8) ∧
    row [0xA1, 0x01, 0x00, 0x01, 0x00, 0x02, 0x01, 0x00] = some (.getCurMute .master 1) ∧
    row [0xA1, 0x02, 0x00, 0x01, 0x00, 0x02, 0x02, 0x00] = some (.getRangeMute .master 2) ∧
    row [0xA1, 0x01, 0x07, 0x01, 0x00, 0x01, 0x04, 0x00] = some (.getCurFreq 7 4) ∧
    row [0xA1, 0x02, 0x00, 0x01, 0x00, 0x01, 0x32, 0x00] = some (.getRangeFreq 0 50) ∧
    row [0xA1, 0x01, 0x03, 0x02, 0x00, 0x02, 0x02, 0x00] = some (.acUnhandledIn 1 0x0203 2 2) ∧
    row [0xA1, 0x01, 0x00, 0x02, 0x00, 0x01, 0x02, 0x00] = some (.acUnhandledIn 1 0x0200 1 2) := by decide +kernel

theorem test_decode_audio_out :
    row [0x21, 0x01, 0x01, 0x02, 0x00, 0x02, 0x02, 0x00] = some (.setCurVolume .left (.setup 2)) ∧
    row [0x21, 0x01, 0x00, 0x01, 0x00, 0x02, 0x01, 0x00] = some (.setCurMute .master (.setup 1)) ∧
    row [0x21, 0x01, 0x00, 0x01, 0x00, 0x01, 0x04, 0x00] = some (.setCurFreq 0 (.setup 4)) ∧
    row [0x21, 0x02, 0x00, 0x02, 0x00, 0x02, 0x08, 0x00] = some (.acUnhandledOut 2 0x0200 2 (.setup 8)) := by
  decide +kernel

/-- The unhandled packets of V-CD19. -/
theorem test_decode_unhandled :
    row [0x80, 0x08, 0x00, 0x00, 0x00, 0x00, 0x01, 0x00] = some (.unhandled ⟨0x80, 8, 0, 0, 1⟩) ∧
    row [0x81, 0x0B, 0x00, 0x00, 0x01, 0x00, 0x00, 0x00] = some (.unhandled ⟨0x81, 11, 0, 1, 0⟩) ∧
    row [0x60, 0x00, 0x00, 0x00, 0x00, 0x00, 0x00, 0x00] = some (.unhandled ⟨0x60, 0, 0, 0, 0⟩) ∧
    row [0x20, 0x01, 0x00, 0x00, 0x00, 0x00, 0x00, 0x00] = some (.unhandled ⟨0x20, 1, 0, 0, 0⟩) ∧
    row [0x22, 0x01, 0x00, 0x01, 0x01, 0x00, 0x00, 0x00] = some (.unhandled ⟨0x22, 1, 0x0100, 1, 0⟩) := by decide +kernel

/-- A string that is no packet is refused by name (R138). -/
theorem test_decode_refuses : decode Config.tcfg.val [0x80, 0x00] = .error (.notEightBytes 2) := by decide +kernel

/-- A word of the opcode table placed for the fetch is fetched and runs (GET_STATUS with every open bit 0). -/
theorem test_fetch_word :
    decodeTableWord 64 0x80 = some (.getStatus 0 0 0) ∧
    after (step (State.reset.withFetchWord 64 0x0002000000000080)) (fun t => (t.trace, t.ctrlPhase, t.evq))
      = some ([.hwArm 0 .IN 2 .data1], .dataIn, []) := by decide +kernel


/-! ## One step of each instruction -/

theorem test_getStatus : after (exec (.getStatus 0 0 2) accepted) (fun t => (t.cts, t.ep0in.readN 0 2, t.ctrlPhase, t.ep 0 .IN))
    = some (⟨[0, 0], 2, 0, 2⟩, some [0, 0], .dataIn, ⟨.control, 64, 0, .data0, true, some (.fresh 2 .data1)⟩) := by decide +kernel

/-- V-CD3. -/
theorem test_getDescriptorDevice : after (exec (.getDescriptorDevice 0 0 8) accepted) (fun t => (t.ep0in.readN 0 8, t.cts.totalLength))
    = some (some [0x12, 0x01, 0x00, 0x02, 0x00, 0x00, 0x00, 0x40], 8) := by decide +kernel

/-- V-ST4, first packet. -/
theorem test_getDescriptorConfiguration :
    after (exec (.getDescriptorConfiguration 0 0 255) accepted) (fun t => (t.cts.totalLength, t.cts.lastLen, t.ep0in.read 63))
    = some (130, 64, some 0x3F) := by decide +kernel

/-- V-CD4. -/
theorem test_getDescriptorString : after (exec (.getDescriptorString 2 0x0409 255) accepted) (fun t => (t.ep0in.readN 0 4, t.cts.totalLength))
    = some (some [0x04, 0x03, 0x09, 0x04], 4) := by decide +kernel

/-- V-CD5. -/
theorem test_getDescriptorQualifier : emits (.getDescriptorQualifier 0 0 10) accepted = some [.hwStallEp0] := by decide +kernel

/-- V-CD6. -/
theorem test_getDescriptorOther : emits (.getDescriptorOther 0x22 0 0 64) accepted = some [.hwStallEp0] := by decide +kernel

/-- V-CD8. -/
theorem test_setAddress : after (exec (.setAddress 0x0185 0 0) accepted) (fun t => (t.pendingAddress, t.addressPending, t.deviceAddress, t.ctrlPhase))
    = some (5, true, 0, .statusIn) := by decide +kernel

/-- V-CD12: endpoints off, the stream stopped, acknowledged. -/
theorem test_setConfiguration : emits (.setConfiguration 1 0 0) streaming
    = some [.hwDisableEndpoint 1 .OUT, .hwDisableEndpoint 1 .IN, .drvStop, .hwArm 0 .IN 0 .data1] := by decide +kernel

/-- V-CD10: an unknown number, tested before any change. -/
theorem test_setConfiguration_unknown : after (exec (.setConfiguration 2 0 0) streaming) (fun t => (t.activeConfig, t.epOut, t.ep0Stalled))
    = some (1, streaming.epOut, true) := by decide +kernel

/-- V-CD16. -/
theorem test_setInterface : emits (.setInterface 1 1 0) configured
    = some [.hwEnableEndpoint 1 .OUT .isochronous 0, .hwEnableEndpoint 1 .IN .isochronous 448, .drvStop, .drvConfigure 16 48000,
        .hwArm 1 .OUT 196 .data0, .hwArm 1 .IN 4 .data0, .hwArm 0 .IN 0 .data1] := by decide +kernel

/-- V-CD14: the whole 16-bit value is the alternate setting. -/
theorem test_setInterface_missing : emits (.setInterface 0x0100 0x0101 0) configured = some [.hwStallEp0] := by decide +kernel

/-- V-CD18. -/
theorem test_epClear : emits (.epClear false 0 0) streaming
    = some [.hwArm 1 .OUT 196 .data0, .hwArm 1 .IN 4 .data0, .hwArm 0 .IN 0 .data1] := by decide +kernel

/-- V-CL12: no handler on the streaming interface. -/
theorem test_classIn : emits (.classIn 1 0x0200 0x0201 2) configured = some [.hwStallEp0] := by decide +kernel

/-- V-CL11: the vendor type is unhandled by the Audio Control handler. -/
theorem test_classInVendor : emits (.classInVendor 1 0x0200 0x0200 2) configured = some [.hwStallEp0] := by decide +kernel

/-- 42 R245: unrouted. -/
theorem test_classOut0 : emits (.classOut0 1 0x0200 0x0201) configured = some [.hwStallEp0] := by decide +kernel

/-- 42 R245: the Audio Control handler fails every zero-length request. -/
theorem test_classOut0Vendor : emits (.classOut0Vendor 1 0x0200 0x0200) configured = some [.hwStallEp0] := by decide +kernel

/-- V-CL12: unrouted wins over oversize. -/
theorem test_classOut : after (exec (.classOut 1 0x0200 0x0201 65) configured) (fun t => (t.ep0Stalled, t.fatal)) = some (true, none) := by
  decide +kernel

/-- 42 R246: routed, 64 bytes are one packet. -/
theorem test_classOutVendor :
    after (exec (.classOutVendor 1 0x0200 0x0200 64) configured) (fun t => (t.ctrlPhase, t.pendingOut, (t.ep 0 .OUT).armed))
    = some (.dataOut, some ⟨0x41, 1, 0x0200, 0x0200, 64⟩, some (.fresh 64 .data1)) := by decide +kernel

/-- V-CL13. -/
theorem test_classOutOversize : after (exec (.classOutOversize false 1 0x0200 0x0200 65) configured) (fun t => (t.fatal, t.ep0Stalled, t.ctrlPhase))
    = some (some .oversizeOut, false, .idle) := by decide +kernel

/-- V-CD19. -/
theorem test_unhandled : emits (.unhandled ⟨0x80, 8, 0, 0, 1⟩) accepted = some [.hwStallEp0] := by decide +kernel

/-- V-CL1. -/
theorem test_getCurVolume :
    after (exec (.getCurVolume .left 2) { configured with chan := ⟨⟨false, 0⟩, ⟨false, 0xFB00⟩, ⟨false, 0xFFFF⟩⟩ }) (fun t => t.ep0in.readN 0 2)
    = some (some [0x00, 0xFB]) := by decide +kernel

/-- V-CL2. -/
theorem test_getRangeVolume : after (exec (.getRangeVolume .right 8) configured) (fun t => t.ep0in.readN 0 8)
    = some (some [0x01, 0x00, 0x00, 0xA0, 0x00, 0x00, 0x00, 0x01]) := by decide +kernel

/-- V-CL3: left reports its own flag. -/
theorem test_getCurMute :
    after (exec (.getCurMute .left 1) { configured with chan := ⟨⟨true, 0⟩, ⟨false, 0⟩, ⟨false, 0⟩⟩ }) (fun t => t.ep0in.readN 0 1)
    = some (some [0x00]) := by decide +kernel

/-- V-CL4, and the parameter's reply where it gives one (42 R255). -/
theorem test_getRangeMute : emits (.getRangeMute .master 2) configured = some [.hwStallEp0] ∧
    emits (.getRangeMute .master 8) external = some [.hwArm 0 .IN 5 .data1] := by decide +kernel

/-- V-CL5. -/
theorem test_getCurFreq : after (exec (.getCurFreq 7 4) { configured with sampleRate := 96000 }) (fun t => t.ep0in.readN 0 4)
    = some (some [0x00, 0x77, 0x01, 0x00]) := by decide +kernel

/-- V-CL6: 50 bytes, the second rate. -/
theorem test_getRangeFreq : after (exec (.getRangeFreq 0 50) configured) (fun t => (t.cts.totalLength, t.ep0in.readN 14 4, t.ep0in.readN 0 2))
    = some (50, some [0x80, 0xBB, 0x00, 0x00], some [0x04, 0x00]) := by decide +kernel

/-- V-CL7: −128, stored exactly; a short payload fails (V-CL10). -/
theorem test_setCurVolume : after (exec (.setCurVolume .right (.payload [0x80, 0xFF])) configured) (fun t => (t.chan.right.volume.toInt, t.ret))
      = some (-128, .bool true) ∧
    after (exec (.setCurVolume .right (.payload [0x00])) configured) (fun t => (t.chan, t.ret)) = some (configured.chan, .bool false) := by
  decide +kernel

/-- V-ST10: the setup word arms the payload; V-CL10: no payload stalls. -/
theorem test_setCurVolume_setup : emits (.setCurVolume .left (.setup 2)) configured = some [.hwArm 0 .OUT 2 .data1] ∧
    emits (.setCurVolume .left (.setup 0)) configured = some [.hwStallEp0] := by decide +kernel

/-- V-CL8. -/
theorem test_setCurMute : after (exec (.setCurMute .master (.payload [0x02])) configured) (fun t => t.chan.master.muted) = some true ∧
    emits (.setCurMute .master (.setup 1)) configured = some [.hwArm 0 .OUT 1 .data1] := by decide +kernel

/-- V-CL9. -/
theorem test_setCurFreq :
    after (exec (.setCurFreq 0 (.payload [0x44, 0xAC, 0x00, 0x00])) configured) (fun t => t.sampleRate) = some 44100 ∧
    after (exec (.setCurFreq 0 (.payload [0x00, 0xEE, 0x02, 0x00])) configured) (fun t => (t.sampleRate, t.ret)) = some (48000, .bool false) := by
  decide +kernel

/-- V-CL11. -/
theorem test_acUnhandledIn : emits (.acUnhandledIn 1 0x0203 2 2) configured = some [.hwStallEp0] := by decide +kernel

/-- V-CL11: the stall comes after the payload. -/
theorem test_acUnhandledOut : emits (.acUnhandledOut 2 0x0200 2 (.setup 8)) configured = some [.hwArm 0 .OUT 8 .data1] ∧
    after (exec (.acUnhandledOut 2 0x0200 2 (.payload [1])) configured) (fun t => t.ret) = some (.bool false) := by decide +kernel

/-- V-CD20: a setup packet ends a stall. -/
theorem test_evSetup : after (exec (.evSetup ⟨0x80, 0, 0, 0, 2⟩) { accepted with ep0Stalled := true }) (fun t => (t.ep0Stalled, (t.ep 0 .IN).armed))
    = some (false, some (.fresh 2 .data1)) := by decide +kernel

/-- V-EQ6, V-EM6: a completion with no handler clears `armed`; one for a disabled endpoint is ignored. -/
theorem test_evBufferDone :
    after (exec (.evBufferDone 0 .IN 0) { accepted with epIn := accepted.epIn.set 0 ⟨.control, 64, 0, .data1, true, some (.fresh 0 .data0)⟩ })
      (fun t => ((t.ep 0 .IN).armed, t.ctrlPhase)) = some (none, .idle) ∧
    exec (.evBufferDone 2 .IN 16) accepted = .next accepted := by
  constructor
  · decide +kernel
  · rfl

/-- V-EQ4. -/
theorem test_evBusReset : emits .evBusReset { streaming with deviceAddress := 5 }
      = some [.hwSetAddress 0, .hwDisableEndpoint 1 .OUT, .hwDisableEndpoint 1 .IN] ∧
    after (exec .evBusReset { streaming with deviceAddress := 5 }) (fun t => (t.deviceAddress, t.altSetting, t.pstate))
      = some (0, [0, 0], .buffering) := by decide +kernel

/-- V-ST4: the third packet. -/
theorem test_ep0InDoneData :
    after (exec (.ep0InDoneData 64) { accepted with ctrlPhase := .dataIn, cts := ⟨tcfgRecord.configDescriptor, 130, 64, 64⟩ })
      (fun t => (t.cts.sentLength, t.cts.lastLen, t.ep0in.readN 0 2)) = some (128, 2, some [0x80, 0x81]) := by decide +kernel

/-- V-ST1: the terminator; then the status OUT (V-ST4's end). -/
theorem test_ep0InDoneData_end :
    emits (.ep0InDoneData 64) { accepted with ctrlPhase := .dataIn, cts := ⟨tcfgRecord.configDescriptor, 64, 0, 64⟩ } = some [.hwArm 0 .IN 0 .data1] ∧
    emits (.ep0InDoneData 2) { accepted with ctrlPhase := .dataIn, cts := ⟨tcfgRecord.configDescriptor, 130, 128, 2⟩ } = some [.hwArm 0 .OUT 0 .data1] := by
  decide +kernel

/-- V-CD7. -/
theorem test_ep0InDoneStatus :
    emits (.ep0InDoneStatus 0) { accepted with ctrlPhase := .statusIn, pendingAddress := 5, addressPending := true } = some [.hwSetAddress 5] ∧
    refusal (exec (.ep0InDoneStatus 0) accepted) = some .notSelected := by decide +kernel

/-- Waiting for the payload of SET CUR volume, left, with the bytes 00 FB stored (V-ST10). -/
def awaiting : State :=
  { configured with
    ctrlPhase := .dataOut, pendingOut := some ⟨0x21, 1, 0x0201, 0x0200, 2⟩, ep0out := [(0, 0x00), (1, 0xFB)]
    epOut := configured.epOut.set 0 ⟨.control, 64, 0, .data0, true, some (.fresh 2 .data1)⟩ }

theorem test_ep0OutDoneData : after (exec (.ep0OutDoneData 2) awaiting) (fun t => (t.chan.left.volume.toInt, t.pendingOut, t.ctrlPhase))
    = some (-1280, none, .statusIn) := by decide +kernel

/-- V-ST7: a phase that expects none. -/
theorem test_ep0Done : exec (.ep0Done .IN 0) accepted = .next accepted ∧
    after (exec (.ep0Done .OUT 2) awaiting) (fun t => t.chan.left.volume.toInt) = some (-1280) := by
  constructor
  · rfl
  · decide +kernel

/-- V-EQ2 without its tick: the packet is appended and the endpoint armed again, PID DATA1. -/
theorem test_streamOutDone :
    after (exec (.streamOutDone 8) { streaming with epbuf := Memory.writeN [] 0 [1, 2, 3, 4, 5, 6, 7, 8], rb := ringOf [] })
      (fun t => (ringCount t.rb, t.rb.storage.readN 0 8, t.steadyFill, (t.ep 1 .OUT).armed))
    = some (8, some [1, 2, 3, 4, 5, 6, 7, 8], 1 / 25, some (.fresh 196 .data1)) := by decide +kernel

/-- V-FB1. -/
theorem test_feedbackInDone : after (exec (.feedbackInDone 4) { streaming with sampleRate := 44100, filtered := 0 }) (fun t => (t.epbuf.readN 448 4, t.filtered))
    = some (some [0x99, 0x19, 0x2C, 0x00], 1 / 2) := by decide +kernel

theorem test_bufferReady : after (exec .bufferReady accepted) (fun t => t.bufferReady) = some true := by decide +kernel

/-- V-EQ3: the ninth event. -/
theorem test_push : after (exec (.push .busReset) { accepted with evq := List.replicate 8 .busReset }) (fun t => (t.fatal, t.evq.length))
      = some (some .queueOverflow, 8) ∧
    after (exec (.push .busReset) accepted) (fun t => t.evq) = some [.busReset] := by decide +kernel

/-- 10 R67: a notice that reports another length than the armed one has no meaning (93 U13). -/
theorem test_push_contract : refusal (exec (.push (.bufferDone 1 .IN 3)) streaming) = some (.hardwareContract 1 .IN) ∧
    refusal (exec (.push (.bufferDone 1 .OUT 197)) streaming) = some (.hardwareContract 1 .OUT) := by decide +kernel

/-- The hardware stores a packet of `b`, then raises its notice. -/
def received (b : Bytes) : Option State :=
  match step { streaming with schedule := [.outData 1 b] } with
  | .next s => after (exec (.push (.bufferDone 1 .OUT b.length)) s) id
  | .fault _ => none
  | .refused _ => none

/-- 10 R66, 20 R81, R104: a notice needs its bytes stored; after it a store has no meaning until the next arming. -/
theorem test_out_window :
    (received [1, 2]).map (fun s => (s.evq, (s.ep 1 .OUT).armed, s.epbuf)) =
      some ([.bufferDone 1 .OUT 2], some ⟨196, .data0, 2, true⟩, [(0, 1), (1, 2)]) ∧
    refusal (exec (.push (.bufferDone 1 .OUT 2)) streaming) = some (.hardwareContract 1 .OUT) ∧
    (received [1, 2]).map (fun s => refusal (step { s with schedule := [.outData 1 [3]] }))
      = some (some (.hardwareContract 1 .OUT)) ∧
    (received [1, 2]).map (fun s => after (exec (.evBufferDone 1 .OUT 2) s) fun t => (t.ep 1 .OUT).armed)
      = some (some (some (.fresh 196 .data1))) := by decide +kernel

/-- V-EQ1: four events of five. -/
theorem test_iterate : after (exec .iterate { accepted with evq := List.replicate 5 (.setupPacket ⟨0x80, 0, 0, 0, 2⟩) }) (fun t => (t.evq.length, t.trace))
    = some (1, List.replicate 4 (.hwArm 0 .IN 2 .data1)) := by decide +kernel

/-- V-PB1. -/
theorem test_tick : after (exec .tick { streaming with rb := ringOf (List.replicate 100 0) }) (fun t => (t.trace, t.pstate))
    = some ([.drvStart, .drvUnmute], .playing) := by decide +kernel

/-- 60 R456: only the external reset leaves the halted state; it leaves State.reset (70 R500). -/
theorem test_resetPin : exec .resetPin halted = .next State.reset ∧ exec .tick halted = .next halted := ⟨rfl, rfl⟩

theorem test_dispatch : emits (.dispatch ⟨0x00, 5, 5, 0, 0⟩) accepted = some [.hwArm 0 .IN 0 .data1] := by decide +kernel

theorem test_ctrlInStart : after (exec (.ctrlInStart [7, 8, 9] 2) accepted) (fun t => (t.cts, t.ep0in.read 1, t.ep0in.read 2))
      = some (⟨[7, 8, 9], 2, 0, 2⟩, some 8, none) ∧
    refusal (exec (.ctrlInStart [] 1) accepted) = some .shortBuffer := by decide +kernel

/-- 41 R211's example. -/
theorem test_sendNextChunk : after (exec .sendNextChunk { accepted with cts := ⟨tcfgRecord.configDescriptor, 130, 128, 64⟩ }) (fun t => t.cts.lastLen)
    = some 2 := by decide +kernel

theorem test_ack : after (exec .ack accepted) (fun t => (t.trace, t.ctrlPhase, (t.ep 0 .IN).nextToggleBit))
    = some ([.hwArm 0 .IN 0 .data1], .statusIn, .data0) := by decide +kernel

theorem test_raiseStall : after (exec .raiseStall awaiting) (fun t => (t.ep0Stalled, t.pendingOut, t.ctrlPhase)) = some (true, none, .idle) := by
  decide +kernel

theorem test_raiseFatal : after (exec (.raiseFatal .bufferAlloc) streaming) (fun t => (t.fatal, t.trace)) = some (some .bufferAlloc, []) := by
  decide +kernel

theorem test_routeClass : emits (.routeClass ⟨0x21, 1, 0x0200, 0x0200, 0x41⟩) configured = some [] ∧
    emits (.routeClass ⟨0xA1, 1, 0x0200, 0x0200, 2⟩) configured = some [.hwArm 0 .IN 2 .data1] := by decide +kernel

theorem test_invokeOutHandler : after (exec (.invokeOutHandler ⟨0x21, 1, 0x0201, 0x0200, 2⟩ [0x00, 0xFB]) configured)
      (fun t => (t.chan.left.volume.toInt, t.ret)) = some (-1280, .bool true) ∧
    refusal (exec (.invokeOutHandler ⟨0x21, 1, 0, 1, 2⟩ []) configured) = some .emptySlot := by decide +kernel

theorem test_pop : after (exec .pop { accepted with evq := [.busReset, .bufferDone 0 .IN 0] }) (fun t => (t.evq, t.ret))
    = some ([.bufferDone 0 .IN 0], .event (some .busReset)) := by decide +kernel

theorem test_handle : emits (.handle .busReset) accepted = some [.hwSetAddress 0] := by decide +kernel

theorem test_readAndClearBufferReady : after (exec .readAndClearBufferReady (playing [])) (fun t => (t.bufferReady, t.ret)) = some (false, .bool true) := by
  decide +kernel

/-- V-CD11: configuration 0 invokes no callback. -/
theorem test_activateConfiguration : after (exec (.activateConfiguration 0) streaming) (fun t => (t.trace, t.activeConfig, t.pstate))
    = some ([.hwDisableEndpoint 1 .OUT, .hwDisableEndpoint 1 .IN], 0, .buffering) := by decide +kernel

/-- 43 R298: 0x01 at 0, 0x81 at 448; one block less is the fatal fault (V-EM2). -/
theorem test_computeLayout : after (exec .computeLayout accepted) (fun t => (t.bufLayout, t.fatal)) = some ([(1, 0), (129, 448)], none) ∧
    layoutOf { tcfgRecord with sharedCapacity := 448 } [] = ([(1, 0), (129, 448)], 512) := by decide +kernel

/-- V-EM1, last line: ascending address, OUT first. -/
theorem test_layout_order : assignOffsets (maxSizes
    [⟨2, .OUT, .isochronous, 100⟩, ⟨1, .OUT, .bulk, 10⟩, ⟨1, .IN, .bulk, 3⟩, ⟨3, .IN, .bulk, 64⟩] []) 0 []
    = ([(1, 0), (2, 64), (129, 192), (131, 256)], 320) := by decide +kernel

theorem test_enableEndpoint : after (exec (.enableEndpoint ⟨1, .IN, .isochronous, 4⟩) configured) (fun t => (t.trace, t.ep 1 .IN))
      = some ([.hwEnableEndpoint 1 .IN .isochronous 448], ⟨.isochronous, 4, 448, .data0, true, none⟩) ∧
    refusal (exec (.enableEndpoint ⟨2, .IN, .isochronous, 4⟩) configured) = some .noLayout := by decide +kernel

theorem test_disableEndpoint : emits (.disableEndpoint 1 .IN) streaming = some [.hwDisableEndpoint 1 .IN] ∧
    emits (.disableEndpoint 1 .IN) configured = some [] := by decide +kernel

/-- V-EM3. -/
theorem test_setAlternateSetting : after (exec (.setAlternateSetting 1 2) streaming) (fun t => (t.trace, t.ep 1 .OUT, t.altSetting))
    = some ([.hwDisableEndpoint 1 .OUT, .hwDisableEndpoint 1 .IN, .hwEnableEndpoint 1 .OUT .isochronous 0,
        .hwEnableEndpoint 1 .IN .isochronous 448], ⟨.isochronous, 392, 0, .data0, true, none⟩, [0, 2]) := by decide +kernel

/-- V-EM4. -/
theorem test_startTransfer : after (exec (.startTransfer 1 .OUT [] 197) streaming) (fun t => (t.ret, t.trace)) = some (.bool false, []) ∧
    after (exec (.startTransfer 1 .IN [0x00, 0x00, 0x30, 0x00] 4) streaming) (fun t => (t.ret, t.epbuf, (t.ep 1 .IN).nextToggleBit))
      = some (.bool true, [(448, 0x00), (449, 0x00), (450, 0x30), (451, 0x00)], .data0) := by decide +kernel

/-- The ring buffer of V-RB1: size 8, indices 6, empty. -/
def wrap : State := { accepted with rb := ⟨[], 8, 8, 6, 6, false⟩ }

/-- V-RB1. -/
theorem test_ringWrite : after (exec (.ringWrite [0x11, 0x22, 0x33] 3) wrap) (fun t => (t.ret, t.rb))
      = some (.count 3, ⟨[(0, 0x33), (6, 0x11), (7, 0x22)], 8, 8, 6, 1, false⟩) ∧
    after (exec (.ringWrite [1, 2] 2) { wrap with rb := ⟨[], 1, 1, 0, 0, false⟩ }) (fun t => (t.ret, t.rb.fullFlag)) = some (.count 1, true) := by
  decide +kernel

/-- V-RB3: a full buffer read past its content. -/
theorem test_ringRead : after (exec (.ringRead 100) { wrap with rb := ⟨Memory.writeN [] 0 [0x33, 0xA0, 0xA1], 3, 3, 1, 1, true⟩ }) (fun t => (t.ret, t.rb.fullFlag, t.rb.head))
      = some (.bytes [0xA0, 0xA1, 0x33] 3, false, 1) ∧
    after (exec (.ringRead 1) wrap) (fun t => t.ret) = some (.bytes [] 0) := by decide +kernel

/-- V-RB6. -/
theorem test_ringFillRatio : after (exec .ringFillRatio (playing (List.replicate 33 0))) (fun t => t.ret) = some (.ratio (33 / 200)) := by decide +kernel

/-- V-RB5. -/
theorem test_ringResize : after (exec (.ringResize 100) { wrap with rb := ⟨[(0, 1)], 400, 400, 3, 5, false⟩ }) (fun t => t.rb)
      = some ⟨[(0, 1)], 100, 400, 0, 0, false⟩ ∧
    after (exec (.ringResize 400) { wrap with rb := ⟨[(0, 1)], 100, 400, 3, 5, false⟩ }) (fun t => (t.rb.size, t.rb.capacity)) = some (400, 400) := by
  decide +kernel

/-- V-PB9. -/
theorem test_streamStart : after (exec (.streamStart .s24) { playing [1] with sampleRate := 44100 }) (fun t => (t.trace, t.rb.size, ringCount t.rb, t.pstate))
    = some ([.drvStop, .drvConfigure 24 44100], 400, 0, .buffering) := by decide +kernel

/-- 10 R63: a period the environment gives waits for DrvConfigure. -/
theorem test_driver_period :
    after (step { streaming with schedule := [.driverPeriod 5] }) (fun t => (t.periodFrames, t.nextPeriod)) = some (8, 5) ∧
    after (exec (.streamStart .s16) { streaming with nextPeriod := 5 }) (fun t => t.periodFrames) = some 5 ∧
    refusal (step { streaming with schedule := [.driverPeriod 0] }) = some .driverContract := by decide +kernel

/-- V-PB10. -/
theorem test_streamStop : after (exec .streamStop (playing [1])) (fun t => (t.trace, t.pstate, ringCount t.rb)) = some ([.drvStop], .stopped, 1) := by
  decide +kernel

/-- V-PB6. -/
theorem test_tickStopped : after (exec .tickStopped { accepted with bufferReady := true }) (fun t => (t.bufferReady, t.trace)) = some (true, []) ∧
    refusal (exec .tickStopped streaming) = some .notSelected := by decide +kernel

/-- V-PB1, below the threshold. -/
theorem test_tickBuffering : emits .tickBuffering { streaming with rb := ringOf (List.replicate 99 0) } = some [] := by decide +kernel

/-- V-PB3 and V-PB4: 32 bytes are an underrun, 33 are not. -/
theorem test_tickPlaying :
    after (exec .tickPlaying (playing (List.replicate 32 7))) (fun t => (t.trace, t.pstate, t.steadyFill, t.bufferReady))
      = some ([.drvWrite (List.replicate 32 0), .ledFast], .stalled, 4 / 25, false) ∧
    after (exec .tickPlaying (playing (List.replicate 33 7))) (fun t => (t.trace, t.pstate, t.steadyFill, ringCount t.rb))
      = some ([.drvWrite (List.replicate 32 7)], .playing, 33 / 200, 1) := by decide +kernel

/-- V-PB5. -/
theorem test_tickStalled :
    after (exec .tickStalled { playing (List.replicate 80 0) with pstate := .stalled }) (fun t => (t.trace, t.pstate, t.bufferReady)) = some ([], .playing, true) ∧
    after (exec .tickStalled { playing (List.replicate 79 0) with pstate := .stalled }) (fun t => (t.trace, t.pstate, t.bufferReady))
      = some ([.drvWrite (List.replicate 32 0)], .stalled, false) := by decide +kernel

/-- V-PB7. -/
theorem test_onSamplesReceived :
    after (exec (.onSamplesReceived (List.replicate 96 1)) { streaming with rb := ringOf [] }) (fun t => (ringCount t.rb, t.steadyFill)) = some (96, 12 / 25) ∧
    after (exec (.onSamplesReceived (List.replicate 8 1)) { playing (List.replicate 196 0) with steadyFill := 1 / 2 })
      (fun t => (ringCount t.rb, t.rb.fullFlag, t.steadyFill)) = some (200, true, 1 / 2) := by decide +kernel

theorem test_setIfCallbackAsIf : after (exec (.setIfCallbackAsIf 4) configured) (fun t => (t.ret, t.trace)) = some (.bool false, []) ∧
    after (exec (.setIfCallbackAsIf 0) configured) (fun t => (t.ret, t.trace)) = some (.bool true, [.drvStop]) := by decide +kernel

/-- V-PB8. -/
theorem test_unpack : after (exec (.unpack .s24 [0x00, 0x00, 0x00, 0x80, 0xFF, 0xFF, 0xFF, 0x7F, 0xAA, 0xBB]) accepted) (fun t => t.ret)
    = some (.bytes [0x00, 0x00, 0x80, 0xFF, 0xFF, 0xFF, 0x7F, 0x00] 8) := by decide +kernel

theorem test_unpack16 : after (exec (.unpack16 [0x01, 0x00, 0xFF, 0xFF, 0x02]) accepted) (fun t => t.ret) = some (.bytes [0x01, 0x00, 0xFF, 0xFF] 4) := by
  decide +kernel

theorem test_unpack24 : after (exec (.unpack24 [0xAB, 0x00, 0x00, 0x00, 0xFF, 0xFF, 0xFF, 0xFF]) accepted) (fun t => t.ret)
    = some (.bytes [0x00, 0x00, 0x00, 0x00, 0xFF, 0xFF, 0xFF, 0xFF] 8) := by decide +kernel

theorem test_unpack32 : after (exec (.unpack32 [0x00, 0x00, 0x00, 0x80, 0xFF]) accepted) (fun t => t.ret) = some (.bytes [0x00, 0x00, 0x00, 0x80] 4) := by
  decide +kernel

/-- V-MX2. -/
theorem test_lookup : after (exec (.lookup 0xFF80) accepted) (fun t => t.ret) = some (.gain 2147483648) ∧
    after (exec (.lookup (BitVec.ofInt 16 (-24831))) accepted) (fun t => t.ret) = some (.gain 34035) ∧
    refusal (exec (.lookup (BitVec.ofInt 16 (-24832))) accepted) = some .volumeOutsideTable ∧
    refusal (exec (.lookup 256) accepted) = some .volumeOutsideTable := by decide +kernel

/-- V-MX3, with the muted side's volume out of range. -/
theorem test_gains : after (exec .gains { accepted with chan := ⟨⟨false, 0⟩, ⟨true, 0x8000⟩, ⟨false, 0xFB00⟩⟩ }) (fun t => t.ret)
    = some (.gains 0 1207618800 2147483648) ∧
    refusal (exec .gains { accepted with chan := ⟨⟨true, 0x8000⟩, ⟨false, 0⟩, ⟨false, 0⟩⟩ }) = some .volumeOutsideTable := by
  decide +kernel

/-- V-MX4. -/
theorem test_scale : after (exec (.scale (-1000) 1207618800 0x80000000) accepted) (fun t => t.ret) = some (.int (-563)) ∧
    after (exec (.scale 2147483647 679093957 679093957) accepted) (fun t => t.ret) = some (.int 214748364) := by decide +kernel

/-- V-MX5; a partial frame is not returned. -/
theorem test_mix :
    after (exec (.mix .s16 [0x10, 0x27, 0xF0, 0xD8, 0xFF, 0x7F, 0x00, 0x80]) { accepted with chan := ⟨⟨false, 0⟩, ⟨false, 0xFB00⟩, ⟨false, 0⟩⟩ }) (fun t => t.ret)
      = some (.bytes [0xF7, 0x15, 0xF0, 0xD8, 0xFA, 0x47, 0x00, 0x80] 8) ∧
    after (exec (.mix .s16 [0xE8, 0x03, 0x18, 0xFC, 0xE8, 0x03]) { accepted with chan := ⟨⟨false, 0⟩, ⟨true, 0⟩, ⟨false, 0⟩⟩ }) (fun t => t.ret)
      = some (.bytes [0x00, 0x00, 0x18, 0xFC] 4) := by decide +kernel

/-- 46 R386's example. -/
theorem test_mixFrame16 : after (exec (.mixFrame16 [0xE8, 0x03, 0x18, 0xFC] 1207618800 1207618800 0x80000000) accepted) (fun t => t.ret)
      = some (.bytes [0x32, 0x02, 0xCD, 0xFD] 4) ∧
    refusal (exec (.mixFrame16 [1] 0 0 0) accepted) = some .notAFrame := by decide +kernel

/-- V-MX7. -/
theorem test_mixFrame24 :
    after (exec (.mixFrame24 [0x00, 0x00, 0x80, 0xFF, 0xFF, 0xFF, 0x7F, 0x00] 1076291389 0x80000000 0x80000000) accepted) (fun t => t.ret)
    = some (.bytes [0x18, 0xD9, 0xBF, 0xFF, 0xFF, 0xFF, 0x7F, 0x00] 8) := by decide +kernel

/-- V-MX8. -/
theorem test_mixFrame32 :
    after (exec (.mixFrame32 [0x00, 0x00, 0x00, 0x80, 0xFF, 0xFF, 0xFF, 0x7F] 34035 34035 34035) accepted) (fun t => t.ret)
    = some (.bytes [0xFF, 0xFF, 0xFF, 0xFF, 0x00, 0x00, 0x00, 0x00] 8) := by decide +kernel

/-- V-FB2 and V-FB4. -/
theorem test_fbStep :
    after (exec .fbStep { playing [] with steadyFill := 7 / 10 }) (fun t => (t.filtered, t.epbuf.readN 448 4)) = some (251 / 500, some [0xC1, 0xFF, 0x2F, 0x00]) ∧
    after (exec .fbStep { playing [] with steadyFill := 3 / 10, sampleRate := 44100 }) (fun t => (t.filtered, t.epbuf.readN 448 4))
      = some (249 / 500, some [0xD3, 0x19, 0x2C, 0x00]) := by decide +kernel

/-- V-EX2: the callback fails after the endpoints were switched, with no format for alternate setting 3. -/
theorem test_callback_fails :
    (let c : Config := { tcfgRecord with altFormats := [(1, .s16)] }
     if h : c.wf = true then
       after (exec (.setInterface 3 1 0) { configured with cfg := ⟨c, h⟩ }) (fun t => (t.altSetting, t.ep0Stalled, (t.ep 1 .OUT).enabled))
     else none) = some ([0, 3], true, true) := by decide +kernel

/-! ## Witnesses: a state and operands that meet the hypotheses of each statement -/

theorem has_next {o : Machine.Outcome} (h : (after o fun _ => ()).isSome = true) : ∃ t, o = .next t := by
  cases o with
  | next t => exact ⟨t, rfl⟩
  | fault _ => simp [after] at h
  | refused _ => simp [after] at h

/-- The statements whose only hypothesis is that the machine runs: `DispatchAgreesWithDecoder`, `StallRowsStall`,
`FatalRowsHalt`, `SettersStore`, `BusResetUnconfigures`, `UnpackKeepsWholeWords`; and `ClassOutWithoutPayload`,
whose other one is that endpoint 0 IN is enabled. -/
theorem witness_running :
    accepted.fatal = none ∧ streaming.fatal = none ∧ external.fatal = none ∧ streaming.epIn[0].enabled = true := by
  decide +kernel

/-- `DataStageSendsChunks`, `StandardReadsReply`, `AudioControlReadsReply`, `ClassInReplies`, `ClassOutArmsPayload`. -/
theorem witness_ep0Ready : Ep0Ready streaming ∧ Ep0Ready accepted ∧ Ep0Ready external := by
  refine ⟨?_, ?_, ?_⟩ <;> constructor <;> decide +kernel

theorem buffersFit_streaming : BuffersFit streaming := by
  intro n d; cases d <;> revert n <;> decide +kernel

/-- `EverySetupIsAnswered`, `SetConfigurationAnswers`, `SetInterfaceAnswers`, on a streaming machine and on one with
external handlers. -/
theorem witness_usbReady : UsbReady streaming ∧ UsbReady external := by
  refine ⟨⟨witness_ep0Ready.1, ?_, buffersFit_streaming⟩, ⟨witness_ep0Ready.2.2, ?_, ?_⟩⟩
  · unfold LayoutKnown; decide +kernel
  · unfold LayoutKnown; decide +kernel
  · intro n d; cases d <;> revert n <;> decide +kernel

theorem witness_DecodeOfEncode :
    (Instr.setAddress 0xFFFF 0 0xFFFF).wf Config.tcfg.val = true ∧
    encode Config.tcfg.val (.setAddress 0xFFFF 0 0xFFFF) = some [0x00, 0x05, 0xFF, 0xFF, 0x00, 0x00, 0xFF, 0xFF] := by
  decide +kernel

/-- One event may still be taken, two are queued. -/
def queued : State := { streaming with evq := [.setupPacket ⟨0x80, 0, 0, 0, 2⟩, .busReset], eventsLeft := 1 }

theorem witness_StepRunsDecodedEvent :
    queued.fatal = none ∧ queued.schedule = [] ∧ queued.evq = .setupPacket ⟨0x80, 0, 0, 0, 2⟩ :: [.busReset] ∧
    queued.eventsLeft = 0 + 1 ∧
    decodeEvent queued.cfg.val (.setupPacket ⟨0x80, 0, 0, 0, 2⟩) = .ok (.getStatus 0 0 2) := by decide +kernel

/-- The buffer of endpoint 1 OUT, 64 bytes, ends where EPBUF ends. -/
def lastBuffer : State :=
  let others := streaming.epOut.set 1 ⟨.isochronous, 64, 448, .data1, true, some (.fresh 64 .data0)⟩
  { streaming with epOut := others.set 0 ⟨.control, 64, 0, .data0, true, some (.fresh 64 .data1)⟩ }

theorem witness_StepRunsScheduled :
    { queued with schedule := [.op .tick] }.schedule = .op .tick :: [] ∧
    { queued with eventsLeft := 0 }.eventsLeft = 0 ∧ accepted.evq = [] ∧ accepted.schedule = [] ∧
    (lastBuffer.ep 0 .OUT).enabled = true ∧ (lastBuffer.ep 0 .OUT).armed = some (.fresh 64 .data1) ∧
    (lastBuffer.ep 1 .OUT).enabled = true ∧ (lastBuffer.ep 1 .OUT).armed = some (.fresh 64 .data0) ∧
    (lastBuffer.epOut[1]).bufferAddress + 64 ≤ lastBuffer.cfg.val.sharedCapacity ∧
    (lastBuffer.ep 2 .OUT).enabled = false ∧ (configured.ep 0 .OUT).enabled = true ∧ (configured.ep 0 .OUT).armed = none ∧
    (raiseNotice 1 .OUT lastBuffer).ep 1 .OUT = ⟨.isochronous, 64, 448, .data1, true, some ⟨64, .data0, 0, true⟩⟩ := by
  decide +kernel

/-- An iteration with two events. -/
theorem witness_IterateIsMicroSteps :
    { queued with eventsLeft := 4 }.eventsLeft = queued.cfg.val.maxEventsPerIter ∧
    ∃ t, exec .iterate { queued with eventsLeft := 4 } = .next t :=
  ⟨by decide +kernel, has_next (by decide +kernel)⟩

/-- Four bytes buffered, with events to take. -/
def buffered : State := { queued with rb := ringOf [1, 2, 3, 4], evq := [.setupPacket ⟨0x01, 11, 2, 1, 0⟩] }

theorem ringOk_buffered : RingOk buffered.rb := by constructor <;> decide +kernel

theorem ringFilled_buffered : RingFilled buffered.rb := by unfold RingFilled; decide +kernel

theorem buffersPlaced_buffered : BuffersPlaced buffered := by
  intro n d; cases d <;> revert n <;> decide +kernel

/-- All invariants at once, and a step from there: `StepKeepsMemories`, `StepKeepsRing`, `StepKeepsRateAndFractions`,
`StepKeepsAlignment`, `StepKeepsControlData`, `TraceOnlyGrows`, `WireStepKeepsUsbReady`. -/
theorem witness_invariants :
    Inv buffered ∧ UsbReady buffered ∧ WireSchedule buffered ∧ BuffersPlaced buffered ∧
    CaptureHeld buffered ∧ PeriodsPositive buffered ∧
    buffered.schedule.head? ≠ some (.op .resetPin) ∧ ∃ t, step buffered = .next t := by
  refine ⟨⟨?_, ?_, ringOk_buffered, ringFilled_buffered, ?_, ?_, ?_, ?_, ?_, ?_, ?_⟩,
    ⟨?_, ?_, ?_⟩, ?_, buffersPlaced_buffered, (fun h => by cases h), by unfold PeriodsPositive; decide +kernel,
    by decide +kernel, has_next (by decide +kernel)⟩
  · intro sp; cases sp <;> decide +kernel
  · constructor <;> decide +kernel
  · unfold QueueBounded; decide +kernel
  · unfold RateSupported; decide +kernel
  · constructor <;> decide +kernel
  · exact ⟨by intro n d; cases d <;> revert n <;> decide +kernel, by decide +kernel⟩
  · unfold AltSettingsSized; decide +kernel
  · unfold FormatKnown; decide +kernel
  · unfold ReplyLongEnough; decide +kernel
  · constructor <;> decide +kernel
  · unfold LayoutKnown; decide +kernel
  · intro n d; cases d <;> revert n <;> decide +kernel
  · intro x hx; cases hx

/-- About to switch the streaming interface to alternate setting 1. -/
def selecting : State := { configured with evq := [.setupPacket ⟨0x01, 11, 1, 1, 0⟩] }

theorem witness_WireStepKeepsEndpointContract :
    NoExternalCallback selecting.cfg.val ∧ WireSchedule selecting ∧ AltSettingsSized selecting ∧
    EndpointContract selecting ∧ ∃ t, step selecting = .next t := by
  refine ⟨(by intro x hx; cases hx), (by intro x hx; cases hx), (by unfold AltSettingsSized; decide +kernel), ?_,
    has_next (by decide +kernel)⟩
  have none_here : ∀ i : Byte, endpointsOf selecting.cfg.val i.toNat (altSettingOf selecting i.toNat).toNat = [] := by
    decide +kernel
  have off : ∀ n d, n ≠ 0 → (selecting.ep n d).enabled = false := by
    intro n d; cases d <;> revert n <;> decide +kernel
  intro n d hn
  constructor
  · intro he; rw [off n d hn] at he; cases he
  · rintro ⟨-, i, e, he, -⟩
    rw [none_here i] at he
    cases he

theorem witness_HaltedMachineStays :
    halted.fatal ≠ none ∧ halted.schedule.head? ≠ some (.op .resetPin) ∧
    { halted with schedule := [.op .iterate] }.schedule.head? ≠ some (.op .resetPin) := by decide +kernel

theorem witness_LayoutIsPacked :
    accepted.fatal = none ∧ accepted.bufLayout = [] ∧ ((itemsFrom (0, 0) accepted.cfg.val.configItems).map (·.2)).length = 6 ∧
    after (exec .computeLayout accepted) (·.fatal) = some none := by decide +kernel

/-- Lengths at the ends of their range: 64 of 64 bytes, 0 bytes; the last chunk ends where the reply ends. -/
theorem witness_DataStageSendsChunks :
    64 ≤ (List.replicate 64 (0 : Byte)).length ∧
    (let s := { accepted with cts := ⟨tcfgRecord.configDescriptor, 130, 128, 64⟩ }
     s.cts.sentLength + min 64 (s.cts.totalLength - s.cts.sentLength) ≤ s.cts.sourceBuffer.length) := by decide +kernel

/-- `ClassInReplies`, `ClassOutWithoutPayload`, `ClassOutArmsPayload`: packets of the three kinds. -/
theorem witness_class_packets :
    SetupPacket.dirIn ⟨0xA1, 1, 0, 2, 4⟩ = true ∧ SetupPacket.dirIn ⟨0x21, 1, 0, 2, 0⟩ = false ∧
    SetupPacket.dirIn ⟨0x21, 1, 0, 2, 64⟩ = false ∧ external.cfg.val.hasOutHandler 2 = true ∧
    external.cfg.val.hasOutHandler 1 = false ∧ SetupPacket.slot ⟨0x21, 1, 0, 2, 0⟩ ≠ external.cfg.val.acIf := by
  decide +kernel

theorem witness_InvokeOutHandlerSelects :
    SetupPacket.slot ⟨0x21, 9, 0x0200, 0x0200, 2⟩ = external.cfg.val.acIf ∧
    external.cfg.val.acKnows false 9 0x0200 2 = false ∧ SetupPacket.type ⟨0x41, 1, 0x0200, 0x0200, 2⟩ ≠ 1 ∧
    external.cfg.val.hasOutHandler 2 = true ∧ external.cfg.val.hasOutHandler 3 = false := by decide +kernel

theorem witness_VolumeRoundTrip : 2 ≤ (2 : BitVec 16).toNat ∧
    ∃ u t, exec (.setCurVolume .left (.payload [0x00, 0xFB])) configured = .next u ∧
      exec (.getCurVolume .left 2) u = .next t := by
  refine ⟨by decide, ?_⟩
  obtain ⟨u, hu⟩ := has_next (o := exec (.setCurVolume .left (.payload [0x00, 0xFB])) configured) (by decide +kernel)
  have hc : u = { configured with chan := ⟨⟨false, 0⟩, ⟨false, 0xFB00⟩, ⟨false, 0⟩⟩, ret := .bool true } := by
    have : exec (.setCurVolume .left (.payload [0x00, 0xFB])) configured
      = .next { configured with chan := ⟨⟨false, 0⟩, ⟨false, 0xFB00⟩, ⟨false, 0⟩⟩, ret := .bool true } := by rfl
    rw [this] at hu
    injection hu with hu
    exact hu.symm
  subst hc
  obtain ⟨t, ht⟩ := has_next (o := exec (.getCurVolume .left 2)
    { configured with chan := ⟨⟨false, 0⟩, ⟨false, 0xFB00⟩, ⟨false, 0⟩⟩, ret := .bool true }) (by decide +kernel)
  exact ⟨_, t, hu, ht⟩

theorem witness_AddressIsDeferred :
    { accepted with ctrlPhase := .statusIn, addressPending := true }.ctrlPhase = .statusIn ∧ accepted.fatal = none := ⟨rfl, rfl⟩

/-- In a data stage of `total` bytes with `sent` acknowledged and `last` just completed. -/
def sending (total sent last : Nat) : State :=
  { accepted with ctrlPhase := .dataIn, cts := ⟨tcfgRecord.configDescriptor, total, sent, last⟩ }

/-- The three clauses: one byte left, a last chunk of 64, a last chunk of 1. -/
theorem witness_Ep0InDataAdvances :
    ReplyLongEnough (sending 65 0 64) ∧ 0 + 64 < 65 ∧ ReplyLongEnough (sending 64 0 64) ∧ 64 ≤ 0 + 64 ∧
    ReplyLongEnough (sending 65 64 1) ∧ 65 ≤ 64 + 1 ∧ (sending 65 64 1).cts.lastLen ≠ 64 := by
  unfold ReplyLongEnough; decide +kernel

/-- A payload of the length announced, and one that fills the packet. -/
theorem witness_Ep0OutDataInvokesHandler :
    awaiting.ctrlPhase = .dataOut ∧ awaiting.pendingOut = some ⟨0x21, 1, 0x0201, 0x0200, 2⟩ ∧
    awaiting.cfg.val.hasOutHandler (SetupPacket.slot ⟨0x21, 1, 0x0201, 0x0200, 2⟩) = true ∧
    awaiting.ep0out.readN 0 2 = some [0x00, 0xFB] ∧
    Memory.readN (Memory.writeN [] 0 (List.replicate 64 5)) 0 64 = some (List.replicate 64 5) := by decide +kernel

/-- Every phase, and the two directions that `idle` ignores. -/
theorem witness_Ep0DoneFollowsPhase :
    (sending 1 0 1).ctrlPhase = .dataIn ∧ awaiting.ctrlPhase = .dataOut ∧
    { accepted with ctrlPhase := .statusOut }.ctrlPhase = .statusOut ∧
    accepted.ctrlPhase ≠ .dataIn ∧ accepted.ctrlPhase ≠ .statusIn ∧ accepted.ctrlPhase ≠ .dataOut ∧
    accepted.ctrlPhase ≠ .statusOut := by decide +kernel

/-- Disabled; one byte too long; exactly the max packet size, IN and OUT, the IN buffer inside EPBUF. -/
theorem witness_StartTransferArms :
    (streaming.ep 2 .IN).enabled = false ∧ (streaming.ep 1 .OUT).maxPacketSize < 197 ∧
    (streaming.ep 1 .OUT).enabled = true ∧ 196 ≤ (streaming.ep 1 .OUT).maxPacketSize ∧
    (streaming.ep 1 .IN).enabled = true ∧ 4 ≤ (streaming.ep 1 .IN).maxPacketSize ∧ 4 ≤ ([1, 2, 3, 4] : Bytes).length ∧
    (streaming.ep 1 .IN).bufferAddress + 4 ≤ streaming.cfg.val.sharedCapacity ∧
    (streaming.ep 0 .IN).enabled = true ∧ 64 ≤ (streaming.ep 0 .IN).maxPacketSize := by decide +kernel

theorem witness_EndpointsEnableAndDisable : layoutAt configured (addrOf ⟨1, .IN, .isochronous, 4⟩) = some 448 := by decide +kernel

/-- No configuration; an alternate setting that does not exist; one that does. -/
theorem witness_AlternateSettingSwitches :
    accepted.activeConfig = 0 ∧ hasAlt streaming.cfg.val 1 4 = false ∧ streaming.activeConfig ≠ 0 ∧
    hasAlt streaming.cfg.val 1 3 = true ∧ LayoutKnown streaming := by
  unfold LayoutKnown; decide +kernel

/-- TCFG with one block less (V-EM2). -/
def tight : Config := { tcfgRecord with sharedCapacity := 448 }

/-- Unknown number; the configuration's; a layout too large; one that fits, without an external callback and with one. -/
theorem witness_ConfigurationActivates :
    (2 : Byte) ≠ 0 ∧ (2 : Byte) ≠ streaming.cfg.val.configValue ∧ (1 : Byte) = streaming.cfg.val.configValue ∧
    tight.wf = true ∧ tight.sharedCapacity < (layoutOf tight []).2 ∧
    (layoutOf streaming.cfg.val []).2 ≤ streaming.cfg.val.sharedCapacity ∧ NoExternalCallback streaming.cfg.val ∧
    streaming.cfg.val.asIf ∈ interfacesOf streaming.cfg.val ∧
    (layoutOf external.cfg.val []).2 ≤ external.cfg.val.sharedCapacity ∧
    externalCallbacks external.cfg.val (interfacesOf external.cfg.val) = [2] ∧
    Config.wf { tcfgRecord with configItems := [.iface 0 0] } = true ∧
    (1 : Byte) ∉ interfacesOf { tcfgRecord with configItems := [.iface 0 0] } := by
  refine ⟨?_, ?_, ?_, ?_, ?_, ?_, ?_, ?_, ?_, ?_, ?_, ?_⟩
  case refine_7 => intro x hx; cases hx
  all_goals decide +kernel

/-- Interface 0 has no callback, 1 the streaming one, 2 an external one. -/
theorem witness_SetInterfaceAnswers :
    setIfCallback external.cfg.val 0 = none ∧ hasAlt external.cfg.val 0 0 = true ∧
    (1 : BitVec 16).toNat = external.cfg.val.asIf.toNat ∧ hasAlt external.cfg.val 1 1 = true ∧
    setIfCallback external.cfg.val 2 = some .external ∧ hasAlt external.cfg.val 2 0 = true ∧
    external.activeConfig ≠ 0 ∧ accepted.activeConfig = 0 ∧ hasAlt external.cfg.val 2 1 = false := by decide +kernel

/-- Streaming, with a third endpoint and another feedback endpoint too small for a value. -/
def threeEndpoints : State :=
  let others := streaming.epIn.set 2 ⟨.bulk, 8, 0, .data1, true, some (.fresh 8 .data0)⟩
  { streaming with epIn := others.set 1 ⟨.isochronous, 3, 448, .data1, true, none⟩ }

/-- TCFG with another effect of EP_CLEAR. -/
def otherClear : Config := { tcfgRecord with clearEffect := .custom 0 }

theorem otherClear_wf : otherClear.wf = true := by decide +kernel

/-- The second clause: whatever plan the constant gives, one of its two cases. -/
theorem witness_EpClear_custom :
    let s := { streaming with cfg := ⟨otherClear, otherClear_wf⟩ }
    s.cfg.val.clearEffect = .custom 0 ∧ s.fatal = none ∧ Ep0Ready s ∧ BuffersFit s := by
  refine ⟨rfl, rfl, ?_, ?_⟩
  · constructor <;> decide +kernel
  · intro n d; cases d <;> revert n <;> decide +kernel

theorem witness_EpClearResetsToggles :
    streaming.cfg.val.clearEffect = .reference ∧ streaming.epIn[0].enabled = true ∧ BuffersFit streaming ∧ (streaming.ep 1 .OUT).enabled = true ∧
    (streaming.ep 1 .IN).enabled = true ∧ 4 ≤ (streaming.ep 1 .IN).maxPacketSize ∧ (streaming.ep 3 .IN).enabled = false ∧
    BuffersFit threeEndpoints ∧ (threeEndpoints.ep 2 .IN).enabled = true ∧ (threeEndpoints.ep 1 .IN).maxPacketSize < 4 := by
  refine ⟨rfl, ?_, buffersFit_streaming, ?_, ?_, ?_, ?_, ?_, ?_, ?_⟩
  case refine_6 => intro n d; cases d <;> revert n <;> decide +kernel
  all_goals decide +kernel

theorem witness_BufferDoneDispatches :
    (streaming.ep 2 .IN).enabled = false ∧ (streaming.ep 0 .IN).enabled = true ∧ (streaming.ep 1 .OUT).enabled = true ∧
    (1 : Fin 16) = streaming.cfg.val.epStreamOut ∧ (streaming.ep 1 .IN).enabled = true ∧
    (1 : Fin 16) = streaming.cfg.val.epFbIn ∧ (threeEndpoints.ep 2 .IN).enabled = true := by decide +kernel

/-- Streaming, a full packet stored in the streaming endpoint's buffer. -/
def stored196 : State := countStored 1 196 { streaming with epbuf := Memory.writeN [] 0 (List.replicate 196 3) }

/-- Room for one more event; a full queue; notices that keep and break the contract. -/
theorem witness_QueueAndFlagSteps :
    { streaming with evq := List.replicate 7 .busReset }.evq.length < streaming.cfg.val.qCap ∧
    streaming.cfg.val.qCap ≤ { streaming with evq := List.replicate 8 .busReset }.evq.length ∧
    (streaming.ep 1 .OUT).enabled = true ∧ (streaming.ep 1 .OUT).armed = some ⟨196, .data0, 0, false⟩ ∧
    (streaming.ep 1 .IN).armed = some ⟨4, .data0, 0, false⟩ ∧ (configured.ep 1 .IN).armed = none ∧
    (stored196.ep 1 .OUT).armed = some ⟨196, .data0, 196, false⟩ := by decide +kernel

/-- An OUT notice at the ends of its range (0 bytes, all 196 stored), one byte more than stored, and 197; an IN notice of
the armed length and of another; one while nothing is armed; endpoint 0 in a phase that expects none. -/
theorem witness_BreaksContract :
    ¬BreaksContract streaming 1 .OUT 0 ∧ ¬BreaksContract stored196 1 .OUT 196 ∧ BreaksContract streaming 1 .OUT 1 ∧
    BreaksContract stored196 1 .OUT 197 ∧ ¬BreaksContract streaming 1 .IN 4 ∧ BreaksContract streaming 1 .IN 3 ∧
    BreaksContract { stored196 with epIn := stored196.epIn.set 1 ⟨.isochronous, 4, 448, .data1, true, none⟩ } 1 .IN 4 ∧
    ¬BreaksContract streaming 0 .IN 5 ∧ ¬BreaksContract streaming 2 .IN 5 := by
  have h1 : (streaming.ep 1 .OUT).armed = some ⟨196, .data0, 0, false⟩ := by decide +kernel
  have h2 : (stored196.ep 1 .OUT).armed = some ⟨196, .data0, 196, false⟩ := by decide +kernel
  have h3 : (streaming.ep 1 .IN).armed = some ⟨4, .data0, 0, false⟩ := by decide +kernel
  have h4 : (State.ep { stored196 with epIn := stored196.epIn.set 1 ⟨.isochronous, 4, 448, .data1, true, none⟩ } 1 .IN).armed
    = none := by decide +kernel
  have h5 : (streaming.ep 2 .IN).enabled = false := by decide +kernel
  have h6 : streaming.ctrlPhase = .idle := rfl
  have e1 : (streaming.ep 1 .OUT).enabled = true := by decide +kernel
  have e2 : (stored196.ep 1 .OUT).enabled = true := by decide +kernel
  have e3 : (streaming.ep 1 .IN).enabled = true := by decide +kernel
  have e4 : (State.ep { stored196 with epIn := stored196.epIn.set 1 ⟨.isochronous, 4, 448, .data1, true, none⟩ } 1 .IN).enabled
    = true := by decide +kernel
  simp [BreaksContract, h1, h2, h3, h4, h5, h6, e1, e2, e3, e4]

theorem witness_IterateCompletes : accepted.evq = [] ∧ Inv buffered ∧ UsbReady buffered ∧
    (∀ n d len, .bufferDone n d len ∉ buffered.evq) ∧ buffered.pstate ≠ .playing := by
  refine ⟨rfl, witness_invariants.1, witness_invariants.2.1, ?_, by decide +kernel⟩
  intro n d len h
  simp [buffered] at h

/-- The last clause: Playing with a free buffer, a full packet stored and its notice queued. -/
def arrived : State :=
  { buffered with
    pstate := .playing, bufferReady := true, epbuf := Memory.writeN [] 0 (List.replicate 196 3)
    evq := [.bufferDone 1 .OUT 196, .bufferDone 1 .IN 4, .bufferDone 0 .IN 0] }

theorem volumesInTable_accepted : VolumesInTable accepted.chan := by
  constructor <;> (intros; unfold InTable; decide +kernel)

theorem witness_IterateCompletes_notices :
    Inv arrived ∧ UsbReady arrived ∧ BuffersPlaced arrived ∧ CaptureHeld arrived ∧ VolumesInTable arrived.chan ∧
    (∀ n d len, .bufferDone n d len ∈ arrived.evq → NoticeServable arrived n d len) ∧
    (∀ len, .bufferDone 0 .OUT len ∉ arrived.evq) := by
  have h := witness_invariants
  refine ⟨⟨?_, ?_, h.1.ring, h.1.filled, ?_, h.1.rate,
      ⟨h.1.fractions.1, h.1.fractions.2, h.1.fractions.3, h.1.fractions.4⟩, ⟨h.1.aligned.1, h.1.aligned.2⟩, h.1.alts, ?_,
      h.1.reply⟩,
    ⟨⟨h.2.1.ep0.1, h.2.1.ep0.2, h.2.1.ep0.3, h.2.1.ep0.4⟩, h.2.1.layout, h.2.1.fit⟩, h.2.2.2.1, (fun h => by cases h), volumesInTable_accepted, ?_, (fun len h => by simp [arrived] at h)⟩
  · intro sp; cases sp <;> decide +kernel
  · constructor <;> decide +kernel
  · unfold QueueBounded; decide +kernel
  · unfold FormatKnown; decide +kernel
  · intro n d len hm
    simp only [arrived, List.mem_cons, UsbEvent.bufferDone.injEq, List.not_mem_nil, or_false] at hm
    obtain ⟨rfl, rfl, rfl⟩ | ⟨rfl, rfl, rfl⟩ | ⟨rfl, rfl, rfl⟩ := hm
    · refine ⟨fun hn => absurd hn (by decide), fun _ _ => ⟨by decide +kernel, fun off ho => ?_⟩⟩
      have : off = 0 := by
        have e : (layoutOf arrived.cfg.val []).1.lookup (epAddress 1 .OUT) = some 0 := by decide +kernel
        rw [e] at ho
        exact (Option.some.inj ho).symm
      subst this
      decide +kernel
    · exact ⟨fun hn => absurd hn (by decide), fun _ hd => absurd hd (by decide)⟩
    · exact ⟨fun _ hd => absurd hd (by decide), fun _ hd => absurd hd (by decide)⟩

/-- `RingOperations`, `RingIsFifo`, the first clause of `IngressFillsTheRing`. -/
theorem witness_RingOperations : RingOk buffered.rb ∧ RingFilled buffered.rb ∧
    (∃ t, exec (.ringWrite [5, 6] 2) buffered = .next t) ∧ (∃ t, exec (.ringRead 3) buffered = .next t) ∧
    (∃ t, exec (.ringResize 200) buffered = .next t) ∧ ∃ t, exec (.ringResize 1) buffered = .next t :=
  ⟨ringOk_buffered, ringFilled_buffered, has_next (by decide +kernel), has_next (by decide +kernel),
    has_next (by decide +kernel), has_next (by decide +kernel)⟩

/-- Every clause, the thresholds from both sides: 80 and 79 bytes of 200 for recovery, 32 for underrun. -/
theorem witness_TicksWithoutMixing :
    accepted.pstate = .stopped ∧ streaming.pstate = .buffering ∧
    2 * 200 ≤ 5 * ringCount (ringOf (List.replicate 80 0)) ∧ 5 * ringCount (ringOf (List.replicate 79 0)) < 2 * 200 ∧
    25 * ringCount (ringOf (List.replicate 32 0)) ≤ 4 * 200 ∧ (playing []).bufferReady = true ∧
    (playing []).format = some .s16 ∧ { playing [] with bufferReady := false }.bufferReady = false := by decide +kernel

/-- 33 bytes, one above the underrun level. -/
theorem witness_PlayingTickMixesOnePeriod :
    let s := playing (List.replicate 33 7)
    s.fatal = none ∧ s.pstate = .playing ∧ s.bufferReady = true ∧ s.format = some .s16 ∧ RingOk s.rb ∧
    RingFilled s.rb ∧ 4 * s.rb.size < 25 * ringCount s.rb ∧ VolumesInTable s.chan := by
  refine ⟨rfl, rfl, rfl, rfl, ?_, ?_, ?_, volumesInTable_accepted⟩
  · constructor <;> decide +kernel
  · unfold RingFilled; decide +kernel
  · decide +kernel

theorem witness_StreamStartsAndStops :
    altFormat streaming.cfg.val 4 = none ∧ altFormat streaming.cfg.val 1 = some .s16 ∧ BuffersFit streaming ∧
    (streaming.ep streaming.cfg.val.epStreamOut .OUT).enabled = true ∧
    (streaming.ep streaming.cfg.val.epFbIn .IN).enabled = true ∧
    4 ≤ (streaming.ep streaming.cfg.val.epFbIn .IN).maxPacketSize ∧
    (accepted.ep accepted.cfg.val.epFbIn .IN).enabled = false := by
  refine ⟨by decide +kernel, by decide +kernel, buffersFit_streaming, by decide +kernel, by decide +kernel,
    by decide +kernel, by decide +kernel⟩

/-- A packet of the largest length stands in the streaming endpoint's buffer. -/
theorem witness_IngressFillsTheRing :
    let s := { buffered with epbuf := Memory.writeN [] 0 (List.replicate 196 3) }
    s.format = some .s16 ∧ (s.ep s.cfg.val.epStreamOut .OUT).bufferAddress + 196 ≤ s.cfg.val.sharedCapacity ∧
    s.epbuf.readN (s.ep s.cfg.val.epStreamOut .OUT).bufferAddress 196 = some (List.replicate 196 3) := by decide +kernel

/-- The ends of the table's range of volumes, one beyond each; a muted side outside it, and a master outside it. -/
theorem witness_GainsAreLookedUp :
    InTable 0x9F01 ∧ (0x9F01 : BitVec 16).toInt = -24831 ∧ ¬InTable 0x9F00 ∧ InTable 0x00FF ∧
    (0x00FF : BitVec 16).toInt = 255 ∧ ¬InTable 0x0100 ∧
    VolumesInTable ⟨⟨false, 0⟩, ⟨true, 0x8000⟩, ⟨false, 0x9F01⟩⟩ ∧
    ¬VolumesInTable ⟨⟨true, 0x0100⟩, ⟨false, 0⟩, ⟨false, 0⟩⟩ := by
  refine ⟨by unfold InTable; decide, by decide, by unfold InTable; decide, by unfold InTable; decide, by decide,
    by unfold InTable; decide, ?_, fun h => absurd h.master (by unfold InTable; decide)⟩
  constructor
  · intro _ h; cases h
  · intros; unfold InTable; decide
  · unfold InTable; decide

theorem witness_ScaleAttenuates : (0x80000000 : BitVec 32).toNat ≤ 2 ^ 31 ∧ 0 < (1 : BitVec 32).toNat ∧
    scaled (-1) (2 ^ 31) 1 = -1 ∧ scaled 5 (2 ^ 31) (2 ^ 31) = 5 := by decide

/-- `MixFrameScalesBothSides`, `MixMapsFramesAndMutes`: unity gains; a muted master; nothing muted at volume 0. -/
theorem witness_mixing : (0x80000000 : BitVec 32).toNat ≤ 2 ^ 31 ∧
    { accepted with chan := ⟨⟨true, 0⟩, ⟨false, 0⟩, ⟨false, 0⟩⟩ }.chan.master.muted = true ∧
    (∀ c, (accepted.channel c).muted = false ∧ (accepted.channel c).volume = 0) := by
  refine ⟨by decide, rfl, ?_⟩
  intro c; cases c <;> decide +kernel

/-- Disabled; too small; a value that ends where EPBUF ends. -/
theorem witness_FeedbackReportsRate :
    (accepted.ep 1 .IN).enabled = false ∧ (threeEndpoints.ep 1 .IN).maxPacketSize < 4 ∧
    (let s := { streaming with epIn := streaming.epIn.set 1 ⟨.isochronous, 4, 508, .data1, true, none⟩ }
     (s.ep s.cfg.val.epFbIn .IN).enabled = true ∧ 4 ≤ (s.ep s.cfg.val.epFbIn .IN).maxPacketSize ∧
     (s.ep s.cfg.val.epFbIn .IN).bufferAddress + 4 ≤ s.cfg.val.sharedCapacity) := by decide +kernel

/-- Every clause: a length one above the bytes given; a buffer that ends one byte outside EPBUF; an address without a
layout; the phases and states; a payload of 65 bytes, one nothing has stored, and one that nothing captured. -/
theorem witness_OperandsOutsideTheirRuleStop :
    ([1] : Bytes).length < 2 ∧ (streaming.ep 1 .IN).enabled = true ∧ 4 ≤ (streaming.ep 1 .IN).maxPacketSize ∧
    (let s := { streaming with epIn := streaming.epIn.set 1 ⟨.isochronous, 4, 509, .data1, true, none⟩ }
     (s.ep 1 .IN).enabled = true ∧ s.cfg.val.sharedCapacity < (s.ep 1 .IN).bufferAddress + 4) ∧
    layoutAt configured (addrOf ⟨2, .IN, .isochronous, 4⟩) = none ∧ ([1, 2, 3] : Bytes).length ≠ 4 ∧
    accepted.ctrlPhase ≠ .dataIn ∧ accepted.ctrlPhase ≠ .statusIn ∧ accepted.ctrlPhase ≠ .dataOut ∧
    awaiting.ctrlPhase = .dataOut ∧ awaiting.ep0out.readN 0 3 = none ∧ awaiting.ep0out.readN 0 2 ≠ none ∧
    { awaiting with pendingOut := none }.pendingOut = none ∧ streaming.pstate ≠ .stopped ∧
    accepted.pstate ≠ .buffering ∧ accepted.pstate ≠ .playing ∧ accepted.pstate ≠ .stalled ∧
    { playing [] with format := none }.bufferReady = true ∧
    (playing (List.replicate 33 7)).format ≠ none ∧ 4 * 200 < 25 * ringCount (playing (List.replicate 33 7)).rb := by
  decide +kernel

end Sys2Proof.Tests
end

section
/-! PROOFS. How a request ends: the stall and the acknowledgement as the states the statements name, and the rows that
are one or the other (spec/41_control_staging.md R214, R216; spec/40_control_dispatch.md R178, R179, R186). -/

namespace Sys2Proof.Machine

/-! ## Stall -/

/-- The state after `raise Stall` is the one the statements speak of. -/
theorem stall_eq_ended {α : Type} (s : State) : (stall s : Res α) = .ended (stalled s) := rfl

/-- A stall of a running machine is a next state (60 R453). -/
theorem live_stall {s : State} (h : s.fatal = none) : live s (stall s) = .next (stalled s) := by
  rw [live_of_running h, stall_eq_ended, outcome_ended]

/-- Settles O21: every one of these rows is `raise Stall` alone, whatever its operands. -/
theorem stallRowsStall : Obligations.StallRowsStall := by
  intro s h
  exact ⟨live_stall h, fun _ _ _ => live_stall h, fun _ _ _ _ => live_stall h, fun _ => live_stall h,
    fun _ _ _ _ => live_stall h⟩

/-! ## Acknowledgement -/

/-- A zero-length transfer on endpoint 0 IN arms it and copies nothing (43 R292). -/
theorem startTransfer_in0_empty {s : State} (he : (s.ep 0 .IN).enabled = true) :
    startTransfer 0 .IN [] 0 s = .ok true (armEndpoint 0 .IN 0 s) := by
  have hcopy : copyToEndpoint 0 .IN [] 0 s = .ok () s := by
    simp [copyToEndpoint, memWrite, Memory.writeN, State.setMem, State.mem]
  simp [startTransfer, he, hcopy]

/-- `Ack()` completes where endpoint 0 IN is enabled, and leaves the state the statements speak of (41 R214). -/
theorem ack_eq_ok {s : State} (he : (s.ep 0 .IN).enabled = true) : ack s = .ok () (acked s) := by
  have hs : ((s.setToggle 0 .IN .data1).ep 0 .IN).enabled = true := by simpa using he
  rw [ack, startTransfer_in0_empty hs, bind_ok]
  simp [acked, armEndpoint, emit, State.setToggle, State.setEp, State.ep, flipPid]

/-- The end of a handler's part of a request, where endpoint 0 IN is enabled. -/
theorem outcome_ackOrStall {s : State} (he : (s.ep 0 .IN).enabled = true) (b : Bool) :
    (ackOrStall b s).outcome = .next (if b then acked s else stalled s) := by
  cases b with
  | true => simp [ackOrStall, ack_eq_ok he]
  | false => rfl

end Sys2Proof.Machine
end

section
/-! PROOFS. Configuration activation always ends with a result or with the fatal fault of the layout
(spec/43_endpoint_manager.md R284, R286), and what it leaves of the control engine; on it rests SET_CONFIGURATION
(spec/40_control_dispatch.md R181). -/

namespace Sys2Proof.Machine

/-! ## The layout has every endpoint of the descriptor list -/

/-- What a map answers, by its first entry. -/
theorem lookup_cons_ite (x : Nat × Nat) (r : List (Nat × Nat)) (a : Nat) :
    (x :: r).lookup a = if a = x.1 then some x.2 else r.lookup a := by
  rw [List.lookup_cons]
  by_cases h : a = x.1
  · simp [h]
  · rw [if_neg h, beq_false_of_ne h]

/-- What a map answers after a key was set. -/
theorem lookup_mapSet (m : List (Nat × Nat)) (k v a : Nat) :
    (mapSet m k v).lookup a = if a = k then some v else m.lookup a := by
  induction m with
  | nil => rw [mapSet, lookup_cons_ite]
  | cons x r ih =>
    simp only [mapSet]
    split
    · rw [lookup_cons_ite]
    · split
      · next hk =>
        simp only [lookup_cons_ite, ← hk]
        split <;> rfl
      · next hk =>
        simp only [lookup_cons_ite, ih]
        split
        · next ha => rw [if_neg (by omega)]
        · rfl

/-- The addresses that have a size: those that had one, and those of the items. -/
theorem lookup_maxSizes_isSome (l : List EpItem) (m : List (Nat × Nat)) (a : Nat) :
    ((maxSizes l m).lookup a).isSome ↔ (m.lookup a).isSome ∨ ∃ e ∈ l, addrOf e = a := by
  induction l generalizing m with
  | nil => simp [maxSizes]
  | cons e r ih =>
    simp only [maxSizes, ih, lookup_mapSet, List.mem_cons, exists_eq_or_imp]
    by_cases h : a = addrOf e
    · simp [h]
    · simp [h, Ne.symm h]

/-- The addresses that have an offset: those that had one, and those that have a size. -/
theorem lookup_assignOffsets_isSome (l : List (Nat × Nat)) (off : Nat) (lay : List (Nat × Nat)) (a : Nat) :
    ((assignOffsets l off lay).1.lookup a).isSome ↔ (lay.lookup a).isSome ∨ (l.lookup a).isSome := by
  induction l generalizing off lay with
  | nil => simp [assignOffsets]
  | cons x r ih =>
    simp only [assignOffsets, ih, lookup_mapSet]
    by_cases h : a = x.1 <;> simp [lookup_cons_ite, h]

/-- The layout of a configuration has exactly the addresses of its items, and those it had (43 R286). -/
theorem lookup_layoutOf_isSome (c : Config) (lay : List (Nat × Nat)) (a : Nat) :
    ((layoutOf c lay).1.lookup a).isSome ↔
      (lay.lookup a).isSome ∨ ∃ e ∈ (itemsFrom (0, 0) c.configItems).map (·.2), addrOf e = a := by
  simp only [layoutOf, lookup_assignOffsets_isSome, lookup_maxSizes_isSome, List.lookup_nil, Option.isSome_none,
    Bool.false_eq_true, false_or]

/-- The endpoints of one alternate setting are among the items of the descriptor list. -/
theorem mem_items_of_mem_endpointsOf {c : Config} {i a : Nat} {e : EpItem} (h : e ∈ endpointsOf c i a) :
    e ∈ (itemsFrom (0, 0) c.configItems).map (·.2) := by
  obtain ⟨p, hp, rfl⟩ := List.mem_map.1 h
  exact List.mem_map_of_mem (List.mem_of_mem_filter hp)

/-- Every endpoint of the descriptor list has its place in the layout. -/
def LayoutComplete (s : State) : Prop :=
  ∀ e ∈ (itemsFrom (0, 0) s.cfg.val.configItems).map (·.2), (layoutAt s (addrOf e)).isSome

/-! ## What activation leaves of the control engine -/

/-- What an activation keeps so that its request can be answered: the record, the halt, what the last procedure row
returned, and that endpoint 0 works (43 R284: it is never disabled). -/
structure EngineKept (s t : State) : Prop where
  cfg     : t.cfg = s.cfg
  fatal   : t.fatal = s.fatal
  ret     : t.ret = s.ret
  enabled : ∀ d, (s.ep 0 d).enabled = true → (t.ep 0 d).enabled = true

theorem EngineKept.refl (s : State) : EngineKept s s := ⟨rfl, rfl, rfl, fun _ h => h⟩

theorem EngineKept.trans {s t u : State} (h : EngineKept s t) (k : EngineKept t u) : EngineKept s u :=
  ⟨k.cfg.trans h.cfg, k.fatal.trans h.fatal, k.ret.trans h.ret, fun d hd => k.enabled d (h.enabled d hd)⟩

/-- What leaves the endpoint table as it was leaves endpoint 0 working. -/
theorem EngineKept.of_table {s t : State} (hc : t.cfg = s.cfg) (hf : t.fatal = s.fatal) (hr : t.ret = s.ret)
    (ho : t.epOut = s.epOut) (hi : t.epIn = s.epIn) : EngineKept s t :=
  ⟨hc, hf, hr, fun d h => by rwa [ep_congr ho hi 0 d]⟩

/-- A step of the walk that keeps the layout keeps it complete. -/
theorem LayoutComplete.of_eq {s t : State} (h : LayoutComplete s) (hc : t.cfg = s.cfg)
    (hl : t.bufLayout = s.bufLayout) : LayoutComplete t := by
  simpa only [LayoutComplete, layoutAt, hc, hl] using h

theorem enableEndpoint_engineKept {e : EpItem} {s t : State} (h : enableEndpoint e s = .ok () t) :
    EngineKept s t ∧ t.bufLayout = s.bufLayout := by
  obtain ⟨off, -, rfl⟩ := enableEndpoint_eq_ok h
  refine ⟨⟨by simp, by simp, by simp, fun d hd => ?_⟩, by simp⟩
  rw [ep_emit, ep_setEp]
  split
  · rfl
  · exact hd

theorem disableEndpoint_engineKept {n : Fin 16} (hn : n ≠ 0) (d : Dir) (s : State) :
    EngineKept s (disableEndpoint n d s) :=
  ⟨by simp, by simp, by simp, fun e he => by simpa [Ne.symm hn] using he⟩

theorem disableAll_engineKept {l : List (Fin 16 × Dir)} (hl : ∀ x ∈ l, x.1 ≠ 0) (s : State) :
    EngineKept s (disableAll l s) := by
  induction l generalizing s with
  | nil => exact .refl s
  | cons x r ih =>
    exact (disableEndpoint_engineKept (hl x List.mem_cons_self) x.2 s).trans
      (ih (fun y hy => hl y (List.mem_cons_of_mem _ hy)) _)

/-- Endpoint 0 is not among the endpoints an activation disables. -/
theorem nonControlEndpoints_ne_zero : ∀ x ∈ nonControlEndpoints, x.1 ≠ 0 := by decide

/-- The fields that say what is active are none of those kept. -/
theorem setActive_engineKept (s : State) (lay : List (Nat × Nat)) (alts : List Byte) (n : Byte) :
    EngineKept s { s with bufLayout := lay, altSetting := alts, activeConfig := n } :=
  .of_table rfl rfl rfl rfl rfl

theorem deactivate_engineKept (s : State) : EngineKept s (deactivate s) := by
  unfold deactivate
  exact (disableAll_engineKept nonControlEndpoints_ne_zero s).trans (setActive_engineKept _ _ _ _)

/-! ## Activation ends with a result, or with the fatal fault of the layout -/

/-- A list of endpoints is enabled where the layout has each. -/
theorem enableAll_total {l : List EpItem} {s : State} (hl : ∀ e ∈ l, (layoutAt s (addrOf e)).isSome) :
    ∃ t, enableAll l s = .ok () t ∧ EngineKept s t ∧ t.bufLayout = s.bufLayout := by
  induction l generalizing s with
  | nil => exact ⟨s, rfl, .refl s, rfl⟩
  | cons e r ih =>
    obtain ⟨off, hoff⟩ := Option.isSome_iff_exists.1 (hl e List.mem_cons_self)
    obtain ⟨u, hu⟩ : ∃ u, enableEndpoint e s = .ok () u := ⟨_, by simp only [enableEndpoint, hoff]; rfl⟩
    obtain ⟨hk, hb⟩ := enableEndpoint_engineKept hu
    obtain ⟨t, ht, hkt, hbt⟩ := ih (s := u) fun x hx => by
      simpa only [layoutAt, hb] using hl x (List.mem_cons_of_mem _ hx)
    exact ⟨t, by simp [enableAll, hu, ht], hk.trans hkt, hbt.trans hb⟩

/-- A callback given alternate setting 0 always answers: the streaming one stops the stream (45 R350). -/
theorem invokeCallback_zero_total (i : BitVec 16) (s : State) :
    ∃ b t, invokeCallback i 0 s = .ok b t ∧ EngineKept s t ∧ t.bufLayout = s.bufLayout := by
  unfold invokeCallback
  split
  · exact ⟨true, s, rfl, .refl s, rfl⟩
  · exact ⟨true, streamStop s, rfl, .of_table rfl rfl rfl rfl rfl, rfl⟩
  · exact ⟨_, _, rfl, .of_table rfl rfl rfl rfl rfl, rfl⟩

/-- The second walk of R284 ends with a result where the layout has every endpoint. -/
theorem activateInterfaces_total (l : List Byte) {s : State} (hl : LayoutComplete s) :
    ∃ b t, activateInterfaces l s = .ok b t ∧ EngineKept s t := by
  induction l generalizing s with
  | nil => exact ⟨true, s, rfl, .refl s⟩
  | cons i r ih =>
    obtain ⟨u, hu, hku, hbu⟩ := enableAll_total (l := endpointsOf s.cfg.val i.toNat 0) (s := s)
      fun e he => hl e (mem_items_of_mem_endpointsOf he)
    obtain ⟨ok, w, hw, hkw, hbw⟩ := invokeCallback_zero_total (i.setWidth 16) u
    have hk := hku.trans hkw
    cases ok with
    | false => exact ⟨false, w, by simp only [activateInterfaces, hu, hw, bind_ok, Bool.false_eq_true, if_false], hk⟩
    | true =>
      obtain ⟨b, t, ht, hkt⟩ := ih (hl.of_eq hk.cfg (hbw.trans hbu))
      exact ⟨b, t, by simp only [activateInterfaces, hu, hw, bind_ok, if_true, ht], hk.trans hkt⟩

/-- The two ways `activateConfiguration` ends, whatever the configuration number (43 R284, R286). -/
theorem activateConfiguration_cases (n : Byte) (s : State) :
    (∃ b t, activateConfiguration n s = .ok b t ∧ EngineKept s t) ∨
    (∃ t, activateConfiguration n s = .ended t ∧ t.fatal = some .bufferAlloc) := by
  have hd := deactivate_engineKept s
  unfold activateConfiguration
  split_ifs with hother hzero
  · exact .inl ⟨false, s, rfl, .refl s⟩
  · exact .inl ⟨true, deactivate s, rfl, hd⟩
  generalize deactivate s = u at hd ⊢
  rcases computeLayout_cases u with ⟨-, hok⟩ | ⟨-, hfatal⟩
  · rw [hok, bind_ok]
    obtain ⟨b, t, ht, hk⟩ := activateInterfaces_total (interfacesOf u.cfg.val)
      (s := { u with bufLayout := (layoutOf u.cfg.val u.bufLayout).1, activeConfig := n })
      fun e he => (lookup_layoutOf_isSome _ _ _).2 (.inr ⟨e, he, rfl⟩)
    exact .inl ⟨b, t, ht, (hd.trans (setActive_engineKept _ _ _ _)).trans hk⟩
  · rw [hfatal, bind_ended]
    exact .inr ⟨_, rfl, rfl⟩

/-! ## SET_CONFIGURATION -/

/-- The row's meaning (43 R284): what the activation returns is latched. -/
theorem exec_activateConfiguration (n : Byte) (s : State) :
    exec (.activateConfiguration n) s = live s ((activateConfiguration n s).latch .bool) := rfl

/-- The row's meaning (40 R181): the activation of `value[7:0]`, then the end of the request on its result. -/
theorem exec_setConfiguration (v i l : BitVec 16) (s : State) :
    exec (.setConfiguration v i l) s = live s ((activateConfiguration (v.extractLsb' 0 8) s).bind ackOrStall) := rfl

/-- Settles O41: the activation answers, and its answer is acknowledged or stalled on; or the layout is fatal and the
request ends there. -/
theorem setConfigurationAnswers : Obligations.SetConfigurationAnswers := by
  intro s v i l hf hr
  rw [exec_activateConfiguration, exec_setConfiguration, live_of_running hf, live_of_running hf]
  rcases activateConfiguration_cases (v.extractLsb' 0 8) s with ⟨b, t, ht, hk⟩ | ⟨t, ht, hfatal⟩
  · have he : (t.ep 0 .IN).enabled = true := hk.enabled .IN hr.ep0.inEnabled
    have hret : { t with ret := s.ret } = t := by rw [← hk.ret]
    refine ⟨{ t with ret := .bool b }, by rw [ht]; rfl, ?_⟩
    have hrun : ¬t.fatal ≠ none := by simp [hk.fatal, hf]
    rw [ht, bind_ok, outcome_ackOrStall he, if_neg hrun]
    simp only [hret, RetVal.bool.injEq]
  · refine ⟨t, by rw [ht]; rfl, ?_⟩
    rw [ht, bind_ended, outcome_ended, if_pos (by simp [hfatal])]

end Sys2Proof.Machine
end

section
/-! PROOFS. The fatal halt as a next state (spec/60_exceptions.md R456), and the two rows that are nothing else
(spec/60_exceptions.md R455; spec/42_class_requests.md R247). -/

namespace Sys2Proof.Machine

/-- A fatal fault of a running machine is a next state: `fatal` has the code, and nothing else changed (60 R456). -/
theorem live_fatalHalt {s : State} (h : s.fatal = none) (c : FatalCode) :
    live s (fatalHalt c s) = .next { s with fatal := some c } := by
  rw [live_of_running h, fatalHalt, outcome_ended]

/-- The row's meaning (60 R455): the fault its operand names. -/
theorem exec_raiseFatal (c : FatalCode) (s : State) : exec (.raiseFatal c) s = live s (fatalHalt c s) := rfl

/-- The row's meaning (42 R247): the fault of an oversized payload, whatever the packet's fields. -/
theorem exec_classOutOversize (vendor : Bool) (request : Byte) (value index length : BitVec 16) (s : State) :
    exec (.classOutOversize vendor request value index length) s = live s (fatalHalt .oversizeOut s) := rfl

/-- Settles O22: each of the two rows is one fatal halt alone, by the code it names or by that of an oversized payload. -/
theorem fatalRowsHalt : Obligations.FatalRowsHalt := by
  intro s h
  constructor
  · intro c
    rw [exec_raiseFatal, live_fatalHalt h]
  · intro vendor request value index length
    rw [exec_classOutOversize, live_fatalHalt h]

end Sys2Proof.Machine
end

section
-- One declaration after another, in this section and those below: the check bounds the memory of parallel elaboration.
set_option Elab.async false
/-! PROOFS. What an operation can do: the elementary moves every procedure is made of. An invariant is then shown once,
move by move, and holds after every step (spec/60_exceptions.md R453: a raised exception is a next state too). -/

namespace Sys2Proof.Machine

/-! ## The moves -/

/-- Which moves are meant: those of the handling of an event without a class payload, those of the handling of any
event, or all of them. -/
inductive Scope where
  | event
  | payload
  | any

/-- A move that leaves the configuration of the endpoints as it is. -/
inductive Act (sc : Scope) : State → State → Prop where
  /-- Fields that no invariant speaks of. -/
  | plain {s t : State} (h : t = { s with
      setup := t.setup, pendingAddress := t.pendingAddress, addressPending := t.addressPending
      deviceAddress := t.deviceAddress, ep0Stalled := t.ep0Stalled, outputRunning := t.outputRunning
      ledFast := t.ledFast, ret := t.ret, freeCount := t.freeCount }) : Act sc s t
  | emit (c : Cmd) (s : State) : Act sc s (emit c s)
  /-- What is armed on an endpoint, and its toggle. -/
  | endpoint (n : Fin 16) (d : Dir) (a : Option Armed) (p : Pid) (s : State) :
      Act sc s (s.setEp n d { s.ep n d with armed := a, nextToggleBit := p })
  /-- Bytes into an endpoint's buffer. -/
  | copy (sp : Space) (a : Nat) (b : Bytes) (s : State) (hsp : sp = .epbuf ∨ sp = .ep0in)
      (hb : b.length = 0 ∨ a + b.length ≤ s.spaceSize sp) : Act sc s (s.setMem sp ((s.mem sp).writeN a b))
  /-- The phase and the captured packet: a payload is awaited only with a packet for a slot that has a handler. -/
  | phase (p : Option SetupPacket) (ph : CtrlPhase) (s : State)
      (h : CaptureHeld s → ph = .dataOut → ∃ q, p = some q ∧ s.cfg.val.hasOutHandler q.slot = true) :
      Act sc s { s with pendingOut := p, ctrlPhase := ph }
  | reply (c : ControlTransfer) (s : State) (h : ReplyLongEnough s → c.totalLength ≤ c.sourceBuffer.length) :
      Act sc s { s with cts := c }
  | halt (c : FatalCode) (s : State) : Act sc s { s with fatal := some c }
  | filter (s : State) : Act sc s { s with filtered := nextFiltered s }
  | measure (q : Rat) (s : State) (h : RingOk s.rb → 0 ≤ q ∧ q ≤ 1) : Act sc s { s with steadyFill := q }
  | ringWrite {data : Bytes} {n k : Nat} {s t : State} (h : ringWrite data n s = .ok k t) : Act sc s t
  | ringResize {n : Nat} {s t : State} (h : ringResize n s = .ok () t) : Act sc s t
  | format (f : SampleFormat) (s : State) : Act sc s { s with format := some f }
  | playback (p : PlaybackState) (s : State) (h : FormatKnown s → p ≠ .stopped → s.format ≠ none)
      (hsc : sc = .any ∨ p ≠ .playing) : Act sc s { s with pstate := p }
  | configure (f : SampleFormat) (s : State) : Act sc s (configureOutput f s)
  | channels (ch : Channels) (s : State) (hsc : sc ≠ .event) : Act sc s { s with chan := ch }
  | rate (r : BitVec 32) (s : State) (hsc : sc ≠ .event) (hr : r.toNat ∈ Const.supportedRates) :
      Act sc s { s with sampleRate := r }
  | ringRead {n : Nat} {b : Bytes} {s t : State} (hsc : sc = .any) (h : ringRead n s = .ok b t) : Act sc s t
  /-- The hardware stores bytes of endpoint 0. -/
  | store (b : Bytes) (s : State) (hsc : sc = .any) (hb : b.length = 0 ∨ 0 + b.length ≤ 64) :
      Act sc s (s.setMem .ep0out (s.ep0out.writeN 0 b))
  | period (b : Bytes) (s : State) (hsc : sc = .any) : Act sc s { s with hwbuf := Memory.writeN [] 0 b }
  /-- What the two contexts share, and the model's own place in the schedule. -/
  | context {s t : State} (hsc : sc = .any) (h : t = { s with
      evq := t.evq, bufferReady := t.bufferReady, eventsLeft := t.eventsLeft, schedule := t.schedule })
      (hq : QueueBounded s → QueueBounded t) (hs : t.schedule ⊆ s.schedule) : Act sc s t

/-- A move on the configuration of the endpoints, as the procedures of spec/43_endpoint_manager.md make it. -/
inductive ConfigAct : State → State → Prop where
  | enable {e : EpItem} {s t : State} (h : enableEndpoint e s = .ok () t) : ConfigAct s t
  | disable (n : Fin 16) (d : Dir) (s : State) : ConfigAct s (disableEndpoint n d s)
  | layout (s : State) : ConfigAct s { s with bufLayout := (layoutOf s.cfg.val s.bufLayout).1 }
  | inactive (s : State) : ConfigAct s { s with
      bufLayout := [], altSetting := s.altSetting.map fun _ => 0, activeConfig := 0 }
  | active (n : Byte) (s : State) : ConfigAct s { s with activeConfig := n }
  | alt (i : Nat) (a : Byte) (s : State) : ConfigAct s { s with altSetting := s.altSetting.set i a }

/-- The two procedures that change the configuration of the endpoints, each taken whole (43 R284, R290). -/
inductive Reconf : State → State → Prop where
  | activate {n : Byte} {s t : State} (h : (activateConfiguration n s).outcome = .next t) : Reconf s t
  | switch {i a : BitVec 16} {b : Bool} {s t : State} (h : setAlternateSetting i a s = .ok b t) : Reconf s t

/-- A move, with the configuration's taken one by one. -/
def Fine (sc : Scope) (s t : State) : Prop := Act sc s t ∨ ConfigAct s t

/-- A move, with the configuration's taken whole. -/
def Move (sc : Scope) (s t : State) : Prop := Act sc s t ∨ Reconf s t

/-- Every move is one of the widest scope. -/
theorem Act.widen {sc : Scope} {s t : State} (h : Act sc s t) : Act .any s t := by
  cases h with
  | plain h => exact .plain h
  | emit c => exact .emit c s
  | endpoint n d a p => exact .endpoint n d a p s
  | copy sp a b _ hsp hb => exact .copy sp a b s hsp hb
  | phase p ph _ h => exact .phase p ph s h
  | reply c _ h => exact .reply c s h
  | halt c => exact .halt c s
  | filter => exact .filter s
  | measure q _ h => exact .measure q s h
  | ringWrite h => exact .ringWrite h
  | ringResize h => exact .ringResize h
  | format f => exact .format f s
  | playback p _ h => exact .playback p s h (.inl rfl)
  | configure f => exact .configure f s
  | channels ch => exact .channels ch s (by simp)
  | rate r _ _ hr => exact .rate r s (by simp) hr
  | ringRead _ h => exact .ringRead rfl h
  | store b _ _ hb => exact .store b s rfl hb
  | period b => exact .period b s rfl
  | context _ h hq hs => exact .context rfl h hq hs

/-! ## What a procedure does -/

/-- Every state a procedure ends in, with a result or by ending the event, has `P`. -/
def Res.All {α : Type} (P : State → Prop) : Res α → Prop
  | .ok _ t => P t
  | .ended t => P t
  | .fault _ => True
  | .refused _ => True

/-- A procedure started in `s` makes moves of `A` only. -/
def Does {α : Type} (A : State → State → Prop) (s : State) (r : Res α) : Prop := r.All (Relation.ReflTransGen A s)

section
variable {A B : State → State → Prop} {α β : Type} {s t u : State} {r : Res α}

theorem Does.of_ok (h : Does A s r) {a : α} (e : r = .ok a t) : Relation.ReflTransGen A s t := by subst e; exact h

theorem Does.of_next (h : Does A s r) (e : r.outcome = .next t) : Relation.ReflTransGen A s t := by
  rcases outcome_eq_next e with ⟨a, e⟩ | e <;> (subst e; exact h)

theorem Does.one (h : A s t) (a : α) : Does A s (.ok a t) := .single h

theorem Does.none (a : α) : Does A s (.ok a s) := .refl

theorem Does.ended (h : A s t) : Does A s (.ended t : Res α) := .single h

theorem Does.refused (e : Refusal) : Does A s (.refused e : Res α) := trivial

/-- What runs after moves already made. -/
theorem Does.after (h : Relation.ReflTransGen A s u) (k : Does A u r) : Does A s r := by
  cases r with
  | ok a t => exact h.trans k
  | ended t => exact h.trans k
  | fault _ => trivial
  | refused _ => trivial

theorem Does.after_one (h : A s u) (k : Does A u r) : Does A s r := .after (.single h) k

/-- Sequencing: what follows runs where the procedure left the state. -/
theorem Does.bind {f : α → State → Res β} (h : Does A s r) (k : ∀ a u, r = .ok a u → Does A u (f a u)) :
    Does A s (r.bind f) := by
  cases r with
  | ok a u => exact .after h (k a u rfl)
  | ended u => exact h
  | fault _ => trivial
  | refused _ => trivial

theorem Does.mono (hAB : ∀ s t, A s t → B s t) (h : Does A s r) : Does B s r := by
  cases r with
  | ok a u => exact Relation.ReflTransGen.mono hAB _ _ h
  | ended u => exact Relation.ReflTransGen.mono hAB _ _ h
  | fault _ => trivial
  | refused _ => trivial

theorem Does.ite {c : Prop} [Decidable c] {r' : Res α} (h : c → Does A s r) (h' : ¬c → Does A s r') :
    Does A s (if c then r else r') := by
  split
  · next hc => exact h hc
  · next hc => exact h' hc

theorem Does.ignore (h : Does A s r) : Does A s r.ignore := h.bind fun _ _ _ => .none ()

end

section
variable {sc : Scope} {α : Type} {s : State} {r : Res α}

/-- Recording the result is a move of its own. -/
theorem Does.latch (h : Does (Act sc) s r) (f : α → RetVal) : Does (Act sc) s (r.latch f) :=
  h.bind fun _ _ _ => .one (.plain rfl) ()

theorem Does.move (h : Does (Act sc) s r) : Does (Move sc) s r := h.mono fun _ _ => .inl

theorem Does.fine (h : Does (Act sc) s r) : Does (Fine sc) s r := h.mono fun _ _ => .inl

end

end Sys2Proof.Machine
end

section
set_option Elab.async false
/-! PROOFS. The moves of every procedure: one lemma each, in the order of the model's files. -/

namespace Sys2Proof.Machine

variable {sc : Scope}

/-! ## Endpoints and staging (spec/43_endpoint_manager.md, spec/41_control_staging.md) -/

theorem disarm_act (s : State) (n : Fin 16) (d : Dir) : Act sc s (s.disarm n d) := .endpoint n d _ _ s

theorem setToggle_act (s : State) (n : Fin 16) (d : Dir) (p : Pid) : Act sc s (s.setToggle n d p) :=
  .endpoint n d _ _ s

theorem armEndpoint_does {α : Type} (n : Fin 16) (d : Dir) (length : Nat) (s : State) (a : α) :
    Does (Act sc) s (.ok a (armEndpoint n d length s)) :=
  .after_one (.endpoint n d _ _ s) (.one (.emit _ _) a)

theorem memWrite_does {sp : Space} (hsp : sp = .epbuf ∨ sp = .ep0in) (a : Nat) (b : Bytes) (s : State) :
    Does (Act sc) s (memWrite sp a b s) := by
  unfold memWrite
  exact .ite (fun h => .one (.copy sp a b s hsp h) ()) fun _ => trivial

theorem copyToEndpoint_does (n : Fin 16) (d : Dir) (buffer : Bytes) (length : Nat) (s : State) :
    Does (Act sc) s (copyToEndpoint n d buffer length s) := by
  cases d with
  | OUT => exact .none ()
  | IN =>
    exact .ite (fun _ => trivial) fun _ => .ite (fun _ => memWrite_does (.inr rfl) _ _ s)
      fun _ => memWrite_does (.inl rfl) _ _ s

theorem startTransfer_does (n : Fin 16) (d : Dir) (buffer : Bytes) (length : Nat) (s : State) :
    Does (Act sc) s (startTransfer n d buffer length s) := by
  unfold startTransfer
  exact .ite (fun _ => .none _) fun _ => .ite (fun _ => .none _)
    fun _ => (copyToEndpoint_does n d buffer length s).bind fun _ u _ => armEndpoint_does n d length u true

/-- A phase that awaits no payload needs no captured packet. -/
theorem phase_act (p : Option SetupPacket) {ph : CtrlPhase} (h : ph ≠ .dataOut) (s : State) :
    Act sc s { s with pendingOut := p, ctrlPhase := ph } := .phase p ph s fun _ e => absurd e h

theorem sendNextChunk_does (s : State) : Does (Act sc) s (sendNextChunk s) := by
  unfold sendNextChunk
  exact (startTransfer_does _ _ _ _ s).bind fun _ u _ => .one (.reply _ u id) ()

theorem ctrlInStart_does (buf : Bytes) (len : Nat) (s : State) : Does (Act sc) s (ctrlInStart buf len s) := by
  unfold ctrlInStart
  refine .ite (fun _ => trivial) fun h => ?_
  have h1 : Act sc s { s with cts := ⟨buf, len, 0, 0⟩ } := .reply _ s fun _ => Nat.le_of_not_lt h
  exact .after_one h1 (.after_one (phase_act _ (by simp) _) (sendNextChunk_does _))

theorem ack_does (s : State) : Does (Act sc) s (ack s) :=
  .after_one (setToggle_act s 0 .IN .data1)
    ((startTransfer_does _ _ _ _ _).bind fun _ u _ => .one (phase_act u.pendingOut (by simp) u) ())

theorem stall_does {α : Type} (s : State) : Does (Act sc) s (stall s : Res α) := by
  have h1 : Act sc s { s with ep0Stalled := true } := .plain rfl
  exact .after_one h1 (.after_one (.emit .hwStallEp0 _) (.ended (phase_act none (by simp) _)))

theorem fatalHalt_does {α : Type} (c : FatalCode) (s : State) : Does (Act sc) s (fatalHalt c s : Res α) :=
  .ended (.halt c s)

theorem ackOrStall_does (r : Bool) (s : State) : Does (Act sc) s (ackOrStall r s) := by
  cases r with
  | true => exact ack_does s
  | false => exact stall_does s

theorem ep0InData_does (s : State) : Does (Act sc) s (ep0InData s) := by
  unfold ep0InData
  have h1 : Act sc s { s with cts := { s.cts with sentLength := s.cts.sentLength + s.cts.lastLen } } := .reply _ s id
  exact .after_one h1 (.ite (fun _ => sendNextChunk_does _) fun _ => .ite
    (fun _ => (startTransfer_does _ _ _ _ _).bind fun _ u _ => .one (.reply _ u id) ())
    fun _ => .after_one (setToggle_act _ 0 .OUT .data1)
      ((startTransfer_does _ _ _ _ _).bind fun _ u _ => .one (phase_act u.pendingOut (by simp) u) ()))

theorem applyAddress_does (s : State) : Relation.ReflTransGen (Act sc) s (applyAddress s) := by
  unfold applyAddress
  split
  · have h1 : Act sc s { s with deviceAddress := s.pendingAddress } := .plain rfl
    exact .trans (.single h1) (.trans (.single (.emit _ _)) (.single (.plain rfl)))
  · exact .refl

theorem ep0InStatus_does (s : State) : Does (Act sc) s (ep0InStatus s) :=
  .after (applyAddress_does s) (.one (phase_act (applyAddress s).pendingOut (by simp) _) ())

theorem acceptSetup_does (p : SetupPacket) (s : State) : Relation.ReflTransGen (Act sc) s (acceptSetup p s) := by
  have h1 : Act sc s { s with setup := p, ep0Stalled := false } := .plain rfl
  refine .trans (.single h1) (.trans (.single (disarm_act _ 0 .IN)) (.trans (.single (disarm_act _ 0 .OUT))
    (.trans (.single (setToggle_act _ 0 .IN .data1)) (.trans (.single (setToggle_act _ 0 .OUT .data1)) ?_))))
  exact .trans (.single (phase_act none (ph := .idle) (by simp) _)) (.single (.plain rfl))

/-! ## Class requests (spec/42_class_requests.md) -/

theorem replyIn_does (reply : Option Bytes) (length : BitVec 16) (s : State) :
    Does (Act sc) s (replyIn reply length s) := by
  cases reply with
  | none => exact stall_does s
  | some b => exact ctrlInStart_does _ _ s

/-- A draw of a free value. -/
theorem draw_act (s : State) : Act sc s { s with freeCount := s.freeCount + 1 } := .plain rfl

theorem classIn_does (p : SetupPacket) (s : State) : Does (Act sc) s (classIn p s) := by
  unfold classIn
  split
  · exact stall_does s
  · exact replyIn_does _ _ s
  · exact .after_one (draw_act s) (replyIn_does _ _ _)

theorem setChannel_eq (s : State) (c : Chan) (x : ChannelControl) :
    s.setChannel c x = { s with chan := (s.setChannel c x).chan } := by
  cases c <;> rfl

theorem setVolume_cases (ch : Chan) (b : Bytes) (s : State) : setVolume ch b s = (false, s) ∨
    ∃ x, b ≠ [] ∧ setVolume ch b s = (true, { s with chan := x }) := by
  unfold setVolume
  split
  · exact .inr ⟨_, by rintro rfl; simp_all, congrArg (Prod.mk true) (setChannel_eq s ch _)⟩
  · exact .inl rfl

theorem setMute_cases (ch : Chan) (b : Bytes) (s : State) : setMute ch b s = (false, s) ∨
    ∃ x, b ≠ [] ∧ setMute ch b s = (true, { s with chan := x }) := by
  unfold setMute
  split
  · exact .inr ⟨_, by simp, congrArg (Prod.mk true) (setChannel_eq s ch _)⟩
  · exact .inl rfl

theorem setFreq_cases (b : Bytes) (s : State) : setFreq b s = (false, s) ∨
    ∃ r, b ≠ [] ∧ r.toNat ∈ Const.supportedRates ∧ setFreq b s = (true, { s with sampleRate := r }) := by
  unfold setFreq
  split
  · next h => exact .inr ⟨_, by rintro rfl; simp at h, h.2, rfl⟩
  · exact .inl rfl

/-- What the Audio Control handler may write: a channel, or a supported rate (42 R261). -/
theorem acOut_cases (p : SetupPacket) (b : Bytes) (s : State) :
    (acOut p b s = (false, s)) ∨ (∃ ch, b ≠ [] ∧ acOut p b s = (true, { s with chan := ch })) ∨
    (∃ r, b ≠ [] ∧ r.toNat ∈ Const.supportedRates ∧ acOut p b s = (true, { s with sampleRate := r })) := by
  unfold acOut
  split_ifs
  · exact .inl rfl
  · split
    · exact (setVolume_cases _ b s).imp_right fun ⟨x, h⟩ => .inl ⟨x, h⟩
    · exact .inl rfl
  · split
    · exact (setMute_cases _ b s).imp_right fun ⟨x, h⟩ => .inl ⟨x, h⟩
    · exact .inl rfl
  · exact (setFreq_cases b s).imp_right .inr
  · exact .inl rfl

theorem invokeOutHandler_does (q : SetupPacket) (b : Bytes) (s : State) (h : b = [] ∨ sc ≠ .event) :
    Does (Act sc) s (invokeOutHandler q b s) := by
  unfold invokeOutHandler
  split
  · trivial
  · rcases acOut_cases q b s with e | ⟨ch, hb, e⟩ | ⟨r, hb, hr, e⟩
    · rw [e]; exact .none _
    · rw [e]; exact .one (.channels ch s (h.resolve_left hb)) _
    · rw [e]; exact .one (.rate r s (h.resolve_left hb) hr) _
  · exact .one (draw_act s) _

theorem classOut0_does (p : SetupPacket) (s : State) : Does (Act sc) s (classOut0 p s) := by
  unfold classOut0
  split
  · exact stall_does s
  · exact (invokeOutHandler_does p [] s (.inl rfl)).bind fun r u _ => ackOrStall_does r u

/-- A slot has a handler exactly where the registry holds one (10 R28). -/
theorem hasOutHandler_eq (c : Config) (i : Byte) : c.hasOutHandler i = (outHandler c i).isSome := by
  unfold Config.hasOutHandler outHandler
  split_ifs with hslot hac hext
  · simp [Nat.not_lt.2 hslot]
  · rw [decide_eq_true (Nat.lt_of_not_le hslot), decide_eq_true hac]; rfl
  · rw [decide_eq_true (Nat.lt_of_not_le hslot), hext]; simp
  · rw [Bool.eq_false_of_not_eq_true hext]; simp [hac]

/-- An OUT transfer writes the endpoint table and the trace only. -/
theorem startTransfer_out_eq_ok {n : Fin 16} {buffer : Bytes} {length : Nat} {s t : State} {r : Bool}
    (h : startTransfer n .OUT buffer length s = .ok r t) :
    t = { s with epOut := t.epOut, trace := t.trace } := by
  rcases startTransfer_eq_ok h with ⟨-, rfl, -⟩ | ⟨-, -, -, u, hu, rfl⟩
  · rfl
  · cases hu; rfl

theorem armPayload_does {p : SetupPacket} {s : State} (h : s.cfg.val.hasOutHandler p.slot = true) :
    Does (Act sc) s (armPayload p s) := by
  have h1 : Act sc s { s with pendingOut := some p } := .phase _ s.ctrlPhase s fun _ _ => ⟨p, rfl, h⟩
  refine .after_one h1 ((startTransfer_does _ _ _ _ _).bind fun _ u hu => .one ?_ ())
  have e := startTransfer_out_eq_ok hu
  refine .phase u.pendingOut .dataOut u fun _ _ => ⟨p, by rw [e], ?_⟩
  rw [e]; exact h

theorem classOut_does (p : SetupPacket) (s : State) : Does (Act sc) s (classOut p s) := by
  unfold classOut
  split
  · exact stall_does s
  · next h _ ho =>
    have hs : s.cfg.val.hasOutHandler p.slot = true := by rw [hasOutHandler_eq, ho]; rfl
    split
    · exact fatalHalt_does _ s
    · exact armPayload_does hs

theorem routeOut_does (p : SetupPacket) (s : State) : Does (Act sc) s (routeOut p s) := by
  unfold routeOut
  exact .ite (fun _ => classOut0_does p s) fun _ => classOut_does p s

theorem routeClass_does (p : SetupPacket) (s : State) : Does (Act sc) s (routeClass p s) := by
  unfold routeClass
  exact .ite (fun _ => classIn_does p s) fun _ => routeOut_does p s

/-! ## The payload's completion: the phase it ran in does not matter to the answer -/

/-- `Ack()` in one equation (41 R214). -/
theorem ack_eq (s : State) : ack s = .ok () (if (s.ep 0 .IN).enabled then acked s
    else { s.setToggle 0 .IN .data1 with ctrlPhase := .statusIn }) := by
  cases he : (s.ep 0 .IN).enabled with
  | true => rw [ack_eq_ok he]; rfl
  | false =>
    have hs : ((s.setToggle 0 .IN .data1).ep 0 .IN).enabled = false := by simpa using he
    rw [ack, startTransfer, if_pos hs]
    rfl

theorem ackOrStall_phase (r : Bool) (ph : CtrlPhase) (s : State) :
    ackOrStall r { s with ctrlPhase := ph } = ackOrStall r s := by
  cases r with
  | false => rfl
  | true => simp only [ackOrStall, if_true, ack_eq]; rfl

theorem acOut_phase (q : SetupPacket) (b : Bytes) (ph : CtrlPhase) (s : State) :
    acOut q b { s with ctrlPhase := ph } = ((acOut q b s).1, { (acOut q b s).2 with ctrlPhase := ph }) := by
  have volume : ∀ ch, setVolume ch b { s with ctrlPhase := ph } =
      ((setVolume ch b s).1, { (setVolume ch b s).2 with ctrlPhase := ph }) := fun ch => by
    unfold setVolume; split <;> cases ch <;> rfl
  have mute : ∀ ch, setMute ch b { s with ctrlPhase := ph } =
      ((setMute ch b s).1, { (setMute ch b s).2 with ctrlPhase := ph }) := fun ch => by
    unfold setMute; split <;> cases ch <;> rfl
  have freq : setFreq b { s with ctrlPhase := ph } =
      ((setFreq b s).1, { (setFreq b s).2 with ctrlPhase := ph }) := by
    unfold setFreq; split <;> rfl
  unfold acOut
  simp only [volume, mute, freq]
  split_ifs
  · rfl
  · cases Chan.ofByte q.valueLo <;> rfl
  · cases Chan.ofByte q.valueLo <;> rfl
  · rfl
  · rfl

/-- A handler answers the same whatever the phase, and the request is answered over it. -/
theorem answer_phase (q : SetupPacket) (b : Bytes) (ph : CtrlPhase) (s : State) :
    (invokeOutHandler q b { s with ctrlPhase := ph }).bind ackOrStall = (invokeOutHandler q b s).bind ackOrStall := by
  unfold invokeOutHandler
  cases outHandler s.cfg.val q.slot with
  | none => rfl
  | some h =>
    cases h with
    | audioControl => simp only [bind_ok, acOut_phase, ackOrStall_phase]
    | external => exact ackOrStall_phase _ ph { s with freeCount := s.freeCount + 1 }

theorem ep0OutData_does (len : Nat) (s : State) (hsc : sc ≠ .event) : Does (Act sc) s (ep0OutData len s) := by
  have hread : Does (Act sc) s (memRead .ep0out 0 len s) := by
    unfold memRead
    refine .ite (fun _ => ?_) fun _ => trivial
    split
    · exact .none _
    · trivial
  refine hread.bind fun payload u _ => ?_
  split
  · trivial
  · next q _ =>
    rw [← answer_phase q payload .idle]
    exact .after_one (phase_act none (by simp) u)
      ((invokeOutHandler_does q payload _ (.inr hsc)).bind fun r v _ => ackOrStall_does r v)

theorem onEp0Done_does (d : Dir) (len : Nat) (s : State) (hsc : d = .IN ∨ sc ≠ .event) :
    Does (Act sc) s (onEp0Done d len s) := by
  unfold onEp0Done
  split
  · exact ep0InData_does s
  · exact ep0InStatus_does s
  · exact .one (phase_act s.pendingOut (by simp) s) ()
  · exact ep0OutData_does len s (hsc.resolve_left (by simp))
  · exact .none ()

/-! ## Feedback, ring buffer and playback (spec/44_ring_buffer.md to spec/47_feedback.md) -/

theorem fbStep_does (s : State) : Does (Act sc) s (fbStep s) :=
  .after_one (.filter s) (startTransfer_does _ _ _ _ _).ignore

/-- A procedure that only ends with a result, or not at all. -/
theorem Does.of_eq_ok {α : Type} {A : State → State → Prop} {s : State} {r : Res α}
    (hok : ∀ a t, r = .ok a t → A s t) (hend : ∀ t, r ≠ .ended t) : Does A s r := by
  cases r with
  | ok a t => exact .one (hok a t rfl) a
  | ended t => exact absurd rfl (hend t)
  | fault _ => trivial
  | refused _ => trivial

theorem bind_ne_ended {α β : Type} {r : Res α} {k : α → State → Res β} (h : ∀ t, r ≠ .ended t)
    (hk : ∀ a u t, k a u ≠ .ended t) (t : State) : r.bind k ≠ .ended t := by
  cases r with
  | ok a u => exact hk a u t
  | ended u => exact absurd rfl (h u)
  | fault _ => simp
  | refused _ => simp

theorem memWrite_ne_ended (sp : Space) (a : Nat) (b : Bytes) (s t : State) : memWrite sp a b s ≠ .ended t := by
  unfold memWrite; split <;> simp

theorem memRead_ne_ended (sp : Space) (a n : Nat) (s t : State) : memRead sp a n s ≠ .ended t := by
  unfold memRead
  split
  · split <;> simp
  · simp

theorem storeRing_ne_ended (size i : Nat) (b : Bytes) (s t : State) : storeRing size i b s ≠ .ended t := by
  induction b generalizing i s t with
  | nil => simp [storeRing]
  | cons x r ih => exact bind_ne_ended (memWrite_ne_ended _ _ _ _) (fun _ u => ih _ u) t

theorem loadRing_ne_ended (size i k : Nat) (s t : State) : loadRing size i k s ≠ .ended t := by
  induction k generalizing i s t with
  | zero => simp [loadRing]
  | succ k ih =>
    exact bind_ne_ended (memRead_ne_ended _ _ _ _) (fun _ u => bind_ne_ended (ih _ u) fun _ _ _ => by simp) t

theorem ringWrite_does (data : Bytes) (n : Nat) (s : State) : Does (Act sc) s (ringWrite data n s) := by
  refine .of_eq_ok (fun k t h => .ringWrite h) fun t => ?_
  unfold ringWrite
  split
  · simp
  · exact bind_ne_ended (storeRing_ne_ended _ _ _ _) (fun _ _ _ => by simp) t

theorem ringRead_does (n : Nat) (s : State) (hsc : sc = .any) : Does (Act sc) s (ringRead n s) :=
  .of_eq_ok (fun _ _ h => .ringRead hsc h) fun t =>
    bind_ne_ended (loadRing_ne_ended _ _ _ _) (fun _ _ _ => by simp) t

theorem ringResize_does (n : Nat) (s : State) : Does (Act sc) s (ringResize n s) := by
  refine .of_eq_ok (fun _ t h => .ringResize h) fun t => ?_
  unfold ringResize
  split_ifs <;> simp

theorem stopOutput_does (s : State) : Relation.ReflTransGen (Act sc) s (stopOutput s) :=
  .trans (.single (.emit .drvStop s)) (.single (.plain rfl))

theorem streamStart_does (f : SampleFormat) (s : State) : Does (Act sc) s (streamStart f s) := by
  unfold streamStart
  refine .after (stopOutput_does s) (.after_one (.configure f _) (.after_one (.format f _)
    ((ringResize_does _ _).bind fun _ u hu => .one (.playback _ u (fun _ _ => ?_) (.inr (by simp))) ())))
  obtain ⟨-, ⟨-, rfl⟩ | ⟨-, rfl⟩⟩ := ringResize_eq_ok hu <;> simp

theorem streamStop_does (s : State) : Relation.ReflTransGen (Act sc) s (streamStop s) :=
  .trans (stopOutput_does s) (.single (.playback .stopped _ (fun _ h => absurd rfl h) (.inr (by simp))))

theorem streamingCallback_does (a : BitVec 16) (s : State) : Does (Act sc) s (streamingCallback a s) := by
  unfold streamingCallback
  refine .ite (fun _ => .after (streamStop_does s) (.none true)) fun _ => ?_
  split
  · exact .none false
  · next f _ => exact (streamStart_does f s).bind fun _ u _ => (startTransfer_does _ _ _ _ u).bind fun _ v _ =>
      (fbStep_does v).bind fun _ _ _ => .none true

theorem onSamplesReceived_does (samples : Bytes) (s : State) : Does (Act sc) s (onSamplesReceived samples s) := by
  refine (ringWrite_does samples _ s).bind fun _ u _ => ?_
  split
  · exact .none ()
  · exact .one (.measure _ u fillRatio_bounds) ()

theorem onStreamOutDone_does (len : Nat) (s : State) : Does (Act sc) s (onStreamOutDone len s) := by
  have hread : ∀ a, Does (Act sc) s (memRead .epbuf a len s) := fun a => by
    unfold memRead
    refine .ite (fun _ => ?_) fun _ => trivial
    split
    · exact .none _
    · trivial
  refine (hread _).bind fun payload u _ => ?_
  split
  · trivial
  · exact (onSamplesReceived_does _ u).bind fun _ v _ => (startTransfer_does _ _ _ _ v).ignore

theorem readAndClear_act (s : State) (hsc : sc = .any) : Act sc s (readAndClear s).2 :=
  .context hsc rfl id (List.Subset.refl _)

theorem bufferingTick_does (s : State) (hsc : sc = .any) (hp : s.pstate = .buffering) :
    Does (Act sc) s (bufferingTick s) := by
  unfold bufferingTick
  refine .ite (fun _ => ?_) fun _ => .none ()
  have h1 : Act sc s { s with outputRunning := true } := .plain rfl
  have h2 : ∀ u : State, u.pstate = .buffering → Act sc u { u with pstate := .playing } := fun u hu =>
    .playback .playing u (fun hk _ => hk (by simp [hu])) (.inl hsc)
  have h3 := h2 (emit .drvStart { s with outputRunning := true }) hp
  exact .after_one h1 (.after_one (.emit .drvStart _) (.after_one h3 (.one (.emit .drvUnmute _) ())))

theorem drvWrite_does (b : Bytes) (s : State) (hsc : sc = .any) :
    Relation.ReflTransGen (Act sc) s (drvWrite b s) :=
  .trans (.single (.period b s hsc)) (.single (.emit _ _))

theorem writeSilence_does (s : State) (hsc : sc = .any) : Does (Act sc) s (writeSilence s) := by
  unfold writeSilence
  split
  · trivial
  · exact .after (drvWrite_does _ s hsc) (.none ())

/-- Silence written leaves the playback state and the format as they were. -/
theorem writeSilence_eq_ok {s t : State} (h : writeSilence s = .ok () t) :
    ∃ f, s.format = some f ∧ t = drvWrite (zeros (s.periodBytes f)) s := by
  unfold writeSilence at h
  split at h
  · cases h
  · next f hf => cases h; exact ⟨f, hf, rfl⟩

theorem playPeriod_does (s : State) (hsc : sc = .any) (hp : s.pstate = .playing) : Does (Act sc) s (playPeriod s) := by
  unfold playPeriod
  have h1 : Act sc s { s with steadyFill := fillRatio s.rb } := .measure _ s fillRatio_bounds
  refine .after_one h1 (.ite (fun _ => ?_) fun _ => ?_)
  · refine (writeSilence_does _ hsc).bind fun _ u hu => ?_
    obtain ⟨f, hf, rfl⟩ := writeSilence_eq_ok hu
    have h2 : ∀ v : State, v.pstate = .playing → Does (Act sc) v
        (.ok () (emit .ledFast { v with pstate := .stalled, ledFast := true })) := fun v hv => by
      have h3 : Act sc v { v with pstate := .stalled } :=
        .playback .stalled v (fun hk _ => hk (by simp [hv])) (.inl hsc)
      exact .after_one h3 (.after_one (.plain rfl) (.one (.emit .ledFast _) ()))
    exact h2 _ hp
  · split
    · trivial
    · next f _ =>
      refine (ringRead_does _ _ hsc).bind fun b u _ => ?_
      cases mix u.cfg.val u.chan f b with
      | none => trivial
      | some m => exact .after (drvWrite_does _ u hsc) (.one (.plain rfl) ())

theorem playingTick_does (s : State) (hsc : sc = .any) (hp : s.pstate = .playing) :
    Does (Act sc) s (playingTick s) := by
  unfold playingTick
  exact .after_one (readAndClear_act s hsc) (.ite (fun _ => playPeriod_does _ hsc hp) fun _ => .none ())

theorem stalledTick_does (s : State) (hsc : sc = .any) (hp : s.pstate = .stalled) :
    Does (Act sc) s (stalledTick s) := by
  unfold stalledTick
  exact .ite (fun _ => .one (.playback .playing s (fun hk _ => hk (by simp [hp])) (.inl hsc)) ()) fun _ =>
    .after_one (readAndClear_act s hsc) (.ite (fun _ => writeSilence_does _ hsc) fun _ => .none ())

theorem playbackTick_does (s : State) (hsc : sc = .any) : Does (Act sc) s (playbackTick s) := by
  unfold playbackTick
  split
  · exact .none ()
  · next h => exact bufferingTick_does s hsc h
  · next h => exact playingTick_does s hsc h
  · next h => exact stalledTick_does s hsc h

/-! ## Configuration (spec/43_endpoint_manager.md R284, R290) -/

theorem invokeCallback_does (i a : BitVec 16) (s : State) : Does (Act sc) s (invokeCallback i a s) := by
  unfold invokeCallback
  split
  · exact .none true
  · exact streamingCallback_does a s
  · exact .one (draw_act s) _

theorem disableAll_does (l : List (Fin 16 × Dir)) (s : State) :
    Relation.ReflTransGen (Fine sc) s (disableAll l s) := by
  induction l generalizing s with
  | nil => exact .refl
  | cons e r ih => exact .trans (.single (.inr (.disable e.1 e.2 s))) (ih _)

theorem enableAll_does (l : List EpItem) (s : State) : Does (Fine sc) s (enableAll l s) := by
  have one : ∀ e u, Does (Fine sc) u (enableEndpoint e u) := fun e u =>
    .of_eq_ok (fun _ _ h => .inr (.enable h)) fun t => by unfold enableEndpoint; split <;> simp
  induction l generalizing s with
  | nil => exact .none ()
  | cons e r ih => exact (one e s).bind fun _ u _ => ih u

theorem disableAll_altSetting (l : List (Fin 16 × Dir)) (s : State) :
    (disableAll l s).altSetting = s.altSetting := by
  induction l generalizing s with
  | nil => rfl
  | cons e r ih => rw [disableAll, ih, disableEndpoint_altSetting]

theorem deactivate_does (s : State) : Relation.ReflTransGen (Fine sc) s (deactivate s) := by
  unfold deactivate
  rw [← disableAll_altSetting nonControlEndpoints s]
  exact (disableAll_does nonControlEndpoints s).tail (.inr (.inactive _))

theorem computeLayout_does (s : State) : Does (Fine sc) s (computeLayout s) := by
  rcases computeLayout_cases s with ⟨-, e⟩ | ⟨-, e⟩ <;> rw [e]
  · exact .one (.inr (.layout s)) ()
  · exact .after_one (.inr (.layout s)) (.ended (.inl (.halt _ _)))

theorem activateInterfaces_does (l : List Byte) (s : State) : Does (Fine sc) s (activateInterfaces l s) := by
  induction l generalizing s with
  | nil => exact .none true
  | cons i r ih =>
    exact (enableAll_does _ s).bind fun _ u _ => (invokeCallback_does _ _ u).fine.bind fun _ v _ =>
      .ite (fun _ => ih v) fun _ => .none false

theorem activateConfiguration_does (n : Byte) (s : State) : Does (Fine sc) s (activateConfiguration n s) := by
  have h := deactivate_does (sc := sc) s
  unfold activateConfiguration
  generalize deactivate s = v at h ⊢
  exact .ite (fun _ => .none false) fun _ => .ite (fun _ => .after h (.none true)) fun _ =>
    .after h ((computeLayout_does v).bind fun _ u _ =>
      .after_one (.inr (.active n u)) (activateInterfaces_does _ _))

theorem setAlternateSetting_does (i a : BitVec 16) (s : State) : Does (Fine sc) s (setAlternateSetting i a s) := by
  unfold setAlternateSetting
  exact .ite (fun _ => .none false) fun _ => .ite (fun _ => .none false) fun _ =>
    .after (disableAll_does _ s) ((enableAll_does _ _).bind fun _ u _ => .one (.inr (.alt _ _ u)) true)

/-- A change of the configuration is made of moves one by one. -/
theorem Reconf.fine {s t : State} (h : Reconf s t) : Relation.ReflTransGen (Fine sc) s t := by
  cases h with
  | activate h => exact (activateConfiguration_does _ s).of_next h
  | switch h => exact (setAlternateSetting_does _ _ s).of_ok h

/-- Moves, each taken apart. -/
theorem moves_fine {s t : State} (h : Relation.ReflTransGen (Move sc) s t) :
    Relation.ReflTransGen (Fine sc) s t := by
  induction h with
  | refl => exact .refl
  | tail _ hm ih => exact ih.trans (hm.elim (fun a => .single (.inl a)) Reconf.fine)

theorem activateConfiguration_moves (n : Byte) (s : State) : Does (Move sc) s (activateConfiguration n s) := by
  have h : ∀ t, (activateConfiguration n s).outcome = .next t → Move sc s t := fun t ht => .inr (.activate ht)
  revert h
  cases activateConfiguration n s with
  | ok b t => exact fun h => .one (h t rfl) b
  | ended t => exact fun h => .ended (h t rfl)
  | fault _ => exact fun _ => trivial
  | refused _ => exact fun _ => trivial

theorem enableAll_ne_ended (l : List EpItem) (s t : State) : enableAll l s ≠ .ended t := by
  induction l generalizing s t with
  | nil => simp [enableAll]
  | cons e r ih =>
    exact bind_ne_ended (fun u => by unfold enableEndpoint; split <;> simp) (fun _ u => ih u) t

theorem setAlternateSetting_moves (i a : BitVec 16) (s : State) : Does (Move sc) s (setAlternateSetting i a s) := by
  refine .of_eq_ok (fun _ _ h => .inr (.switch h)) fun t => ?_
  unfold setAlternateSetting
  split_ifs
  · simp
  · simp
  · exact bind_ne_ended (enableAll_ne_ended _ _) (fun _ _ _ => by simp) t

/-! ## Requests (spec/40_control_dispatch.md) -/

theorem setAddress_does (v : BitVec 16) (s : State) : Does (Act sc) s (setAddress v s) :=
  .after_one (.plain rfl) (ack_does _)

theorem setConfiguration_does (v : BitVec 16) (s : State) : Does (Move sc) s (setConfiguration v s) :=
  (activateConfiguration_moves _ s).bind fun r u _ => (ackOrStall_does r u).move

theorem setInterface_does (i v : BitVec 16) (s : State) : Does (Move sc) s (setInterface i v s) :=
  (setAlternateSetting_moves i v s).bind fun _ u _ => .ite
    (fun _ => (invokeCallback_does i v u).move.bind fun r w _ => (ackOrStall_does r w).move)
    fun _ => (stall_does u).move

theorem clearEndpoint_does (n : Fin 16) (d : Dir) (s : State) : Does (Act sc) s (clearEndpoint n d s) := by
  unfold clearEndpoint
  refine .ite (fun _ => .none ()) fun _ => .after_one (setToggle_act s n d .data0) (.after_one (disarm_act _ n d) ?_)
  cases d with
  | OUT => exact .ite (fun _ => (startTransfer_does _ _ _ _ _).ignore) fun _ => .none ()
  | IN => exact .ite (fun _ => fbStep_does _) fun _ => .none ()

theorem clearEndpoints_does (l : List (Fin 16 × Dir)) (s : State) : Does (Act sc) s (clearEndpoints l s) := by
  induction l generalizing s with
  | nil => exact .none ()
  | cons e r ih => exact (clearEndpoint_does e.1 e.2 s).bind fun _ u _ => ih u

theorem clearAction_does (a : ClearAction) (s : State) : Does (Act sc) s (clearAction a s) := by
  cases a with
  | setToggle n d p => exact .one (setToggle_act s n d p) ()
  | disarm n d => exact .one (disarm_act s n d) ()
  | armOut n length => exact (startTransfer_does _ _ _ _ s).ignore
  | armIn n buffer => exact (startTransfer_does _ _ _ _ s).ignore
  | feedback => exact fbStep_does s

theorem clearActions_does (l : List ClearAction) (s : State) : Does (Act sc) s (clearActions l s) := by
  induction l generalizing s with
  | nil => exact .none ()
  | cons a r ih => exact (clearAction_does a s).bind fun _ u _ => ih u

theorem epClear_does (s : State) : Does (Act sc) s (epClear s) := by
  unfold epClear
  split
  · exact (clearEndpoints_does _ s).bind fun _ u _ => ack_does u
  · split
    · exact stall_does s
    · exact (clearActions_does _ s).bind fun _ u _ => ack_does u

theorem dispatchDeviceIn_does (p : SetupPacket) (s : State) : Does (Act sc) s (dispatchDeviceIn p s) := by
  unfold dispatchDeviceIn
  exact .ite (fun _ => replyIn_does _ _ s) fun _ => .ite
    (fun _ => .ite (fun _ => ctrlInStart_does _ _ s) fun _ => .ite (fun _ => ctrlInStart_does _ _ s) fun _ =>
      .ite (fun _ => replyIn_does _ _ s) fun _ => .ite (fun _ => stall_does s) fun _ => stall_does s)
    fun _ => stall_does s

theorem dispatchDeviceOut_does (p : SetupPacket) (s : State) : Does (Move sc) s (dispatchDeviceOut p s) := by
  unfold dispatchDeviceOut
  exact .ite (fun _ => (setAddress_does _ s).move) fun _ => .ite (fun _ => setConfiguration_does _ s)
    fun _ => (stall_does s).move

theorem dispatch_does (p : SetupPacket) (s : State) : Does (Move sc) s (dispatch p s) := by
  unfold dispatch
  exact .ite (fun _ => (dispatchDeviceIn_does p s).move) fun _ => .ite (fun _ => dispatchDeviceOut_does p s) fun _ =>
    .ite (fun _ => .ite (fun _ => setInterface_does _ _ s) fun _ => (stall_does s).move) fun _ =>
    .ite (fun _ => (epClear_does s).move) fun _ => .ite (fun _ => (routeClass_does p s).move)
    fun _ => (stall_does s).move

theorem evSetup_does (p : SetupPacket) (s : State) : Does (Move sc) s (evSetup p s) :=
  .after (Relation.ReflTransGen.mono (fun _ _ => .inl) _ _ (acceptSetup_does p s)) (dispatch_does p _)

/-! ## Events and the main loop (spec/48_event_queue.md) -/

/-- The notice that delivers a class payload, if any, is one of endpoint 0 OUT. -/
def UsbEvent.payload : UsbEvent → Prop
  | .bufferDone n d _ => n = 0 ∧ d = .OUT
  | .setupPacket _ => False
  | .busReset => False

theorem bufferDone_does (n : Fin 16) (d : Dir) (len : Nat) (s : State) (h : ¬(n = 0 ∧ d = .OUT) ∨ sc ≠ .event) :
    Does (Act sc) s (bufferDone n d len s) := by
  unfold bufferDone
  refine .ite (fun _ => .none ()) fun _ => .after_one (disarm_act s n d) (.ite (fun hn => ?_) fun _ =>
    .ite (fun _ => onStreamOutDone_does len _) fun _ => .ite (fun _ => fbStep_does _) fun _ => .none ())
  refine onEp0Done_does d len _ (h.imp_left fun h => ?_)
  cases d with
  | IN => rfl
  | OUT => exact absurd ⟨hn, rfl⟩ h

theorem resetUsb_does (s : State) : Relation.ReflTransGen (Act sc) s (resetUsb s) := by
  have h1 : Act sc s { s with deviceAddress := 0 } := .plain rfl
  unfold resetUsb
  refine .trans (.single h1) (.trans (.single (.emit (.hwSetAddress 0) _)) ?_)
  generalize emit (.hwSetAddress 0) { s with deviceAddress := 0 } = u
  have h2 : Act sc u { u with pendingOut := none, ctrlPhase := .idle } := phase_act none (by simp) u
  refine .trans (.single h2) (.trans (.single (.plain (t := { u with
    pendingAddress := 0, addressPending := false, pendingOut := none, ep0Stalled := false, ctrlPhase := .idle }) rfl)) ?_)
  exact .trans (.single (disarm_act _ 0 .IN)) (.trans (.single (setToggle_act _ 0 .IN .data0))
    (.trans (.single (disarm_act _ 0 .OUT)) (.single (setToggle_act _ 0 .OUT .data0))))

theorem busReset_does (s : State) : Does (Move sc) s (busReset s) :=
  .after (Relation.ReflTransGen.mono (fun _ _ => .inl) _ _ (resetUsb_does s)) (activateConfiguration_moves 0 _).ignore

theorem handle_does (e : UsbEvent) (s : State) (h : ¬UsbEvent.payload e ∨ sc ≠ .event) :
    Does (Move sc) s (handle e s) := by
  cases e with
  | setupPacket p => exact evSetup_does p s
  | bufferDone n d len => exact (bufferDone_does n d len s h).move
  | busReset => exact busReset_does s

theorem pop_act (s : State) (k : Nat) (hsc : sc = .any) : Act sc s { (pop s).2 with eventsLeft := k } :=
  .context hsc rfl (fun h => (show s.evq.tail.length ≤ s.evq.length by simp).trans h) (List.Subset.refl _)

theorem endIteration_does (s : State) (hsc : sc = .any) : Does (Act sc) s (endIteration s) := by
  unfold endIteration
  have h1 : Act sc s { s with eventsLeft := s.cfg.val.maxEventsPerIter } :=
    .context hsc rfl id (List.Subset.refl _)
  exact .after_one h1 (playbackTick_does _ hsc)

theorem Does.afterEvent {A : State → State → Prop} {s : State} {r : Res Unit} {k : State → Res Unit} (h : Does A s r)
    (hk : ∀ u, Does A u (k u)) : Does A s (afterEvent r k) := by
  cases r with
  | ok a u => exact .after h (.ite (fun _ => hk u) fun _ => Relation.ReflTransGen.refl)
  | ended u => exact .after h (.ite (fun _ => hk u) fun _ => Relation.ReflTransGen.refl)
  | fault _ => trivial
  | refused _ => trivial

theorem drain_does (k : Nat) (s : State) : Does (Move .any) s (drain k s) := by
  induction k generalizing s with
  | zero => exact (endIteration_does s rfl).move
  | succ k ih =>
    cases he : s.evq with
    | nil =>
      have hp : pop s = (none, s) := by cases s; cases he; rfl
      simp only [drain, hp]
      exact (endIteration_does s rfl).move
    | cons e r =>
      have hp : pop s = (some e, { s with evq := r }) := by simp only [pop, he]; rfl
      simp only [drain, hp]
      have h1 : Act .any s { s with evq := r, eventsLeft := k } := by
        have := pop_act (sc := .any) s k rfl
        simpa only [hp] using this
      exact .after_one (.inl h1) (Does.afterEvent (handle_does e _ (.inr (by simp))) ih)

theorem iterate_does (s : State) : Does (Move .any) s (iterate s) := drain_does _ s

theorem enqueue_does (e : UsbEvent) (s : State) : Does (Act .any) s (enqueue e s) := by
  rcases enqueue_cases e s with ⟨h, he⟩ | ⟨-, he⟩ <;> rw [he]
  · exact .one (.context rfl rfl (fun _ => by simpa [QueueBounded] using h) (List.Subset.refl _)) ()
  · exact .ended (.halt _ s)

theorem raiseNotice_does (n : Fin 16) (d : Dir) (s : State) :
    Relation.ReflTransGen (Act sc) s (raiseNotice n d s) := by
  unfold raiseNotice
  split
  · exact .single (.endpoint n .OUT _ _ s)
  · exact .refl

theorem push_does (e : UsbEvent) (s : State) : Does (Act .any) s (push e s) := by
  cases e with
  | setupPacket p => exact enqueue_does _ s
  | busReset => exact enqueue_does _ s
  | bufferDone n d len =>
    exact .ite (fun _ => (enqueue_does _ s).bind fun _ u _ => .after (raiseNotice_does n d u) (.none ()))
      fun _ => trivial

theorem countStored_does (n : Fin 16) (k : Nat) (s : State) :
    Relation.ReflTransGen (Act sc) s (countStored n k s) := by
  unfold countStored
  split
  · exact .single (.endpoint n .OUT _ _ s)
  · exact .refl

theorem storeOut_does (n : Fin 16) (b : Bytes) (s : State) : Does (Act .any) s (storeOut n b s) := by
  unfold storeOut
  refine .ite (fun _ => .ite (fun _ => ?_) fun _ => trivial) fun _ => .none ()
  refine Does.bind ?_ fun _ u _ => .after (countStored_does n _ u) (.none ())
  exact .ite (fun _ => .ite (fun h => .one (.store b s rfl h) ()) fun _ => trivial)
    fun _ => memWrite_does (.inl rfl) _ _ s

end Sys2Proof.Machine
end

section
set_option Elab.async false
/-! PROOFS. The setup packet and its rows (spec/30_encoding.md R121 to R133): a packet is its fields, an operation is the
packet it has, and the decoder and the encoder are inverse to each other. -/

namespace Sys2Proof

/-! ## A packet and its fields -/

section
variable (d : Bool) (t : BitVec 2) (r : BitVec 5) (request : Byte) (value index length : BitVec 16)

@[simp] theorem dirIn_mk : SetupPacket.dirIn ⟨mkRequestType d t r, request, value, index, length⟩ = d := by
  simp only [SetupPacket.dirIn, mkRequestType, BitVec.getLsbD_append, BitVec.getLsbD_ofBool]
  rfl

@[simp] theorem type_mk : SetupPacket.type ⟨mkRequestType d t r, request, value, index, length⟩ = t := by
  simp only [SetupPacket.type, mkRequestType]
  apply BitVec.eq_of_getLsbD_eq
  intro k hk
  simp only [BitVec.getLsbD_extractLsb', BitVec.getLsbD_append, BitVec.getLsbD_ofBool]
  rw [if_neg (by omega), if_pos (by omega), decide_eq_true hk, Bool.true_and, Nat.add_sub_cancel_left]

@[simp] theorem rcpt_mk : SetupPacket.rcpt ⟨mkRequestType d t r, request, value, index, length⟩ = r := by
  simp only [SetupPacket.rcpt, mkRequestType]
  apply BitVec.eq_of_getLsbD_eq
  intro k hk
  simp only [BitVec.getLsbD_extractLsb', BitVec.getLsbD_append, BitVec.getLsbD_ofBool]
  rw [if_pos (by omega), decide_eq_true hk, Bool.true_and, Nat.zero_add]

end

/-- `requestType` is its three fields (R122). -/
theorem requestType_eq (p : SetupPacket) : p.requestType = mkRequestType p.dirIn p.type p.rcpt := by
  rw [mkRequestType, SetupPacket.dirIn, SetupPacket.type, SetupPacket.rcpt]
  apply BitVec.eq_of_getLsbD_eq
  intro k hk
  simp only [BitVec.getLsbD_append, BitVec.getLsbD_extractLsb', BitVec.getLsbD_ofBool]
  split_ifs with hr ht
  · simp [hr]
  · rw [show 5 + (k - 5) = k by omega, decide_eq_true (by omega), Bool.true_and]
  · obtain rfl : k = 7 := by omega
    simp

/-- A 16-bit field is its two bytes (R125, R130). -/
theorem mkField_bytes (v : BitVec 16) : mkField (v.extractLsb' 8 8) (v.extractLsb' 0 8) = v := by
  apply BitVec.eq_of_getLsbD_eq
  intro k hk
  simp only [mkField, BitVec.getLsbD_append, BitVec.getLsbD_extractLsb']
  split_ifs with h
  · simp [h]
  · rw [show 8 + (k - 8) = k by omega, decide_eq_true (by omega), Bool.true_and]

@[simp] theorem mkField_hi (hi lo : Byte) : (mkField hi lo).extractLsb' 8 8 = hi := by
  apply BitVec.eq_of_getLsbD_eq
  intro k hk
  simp only [mkField, BitVec.getLsbD_append, BitVec.getLsbD_extractLsb']
  rw [if_neg (by omega), decide_eq_true hk, Bool.true_and, Nat.add_sub_cancel_left]

@[simp] theorem mkField_lo (hi lo : Byte) : (mkField hi lo).extractLsb' 0 8 = lo := by
  apply BitVec.eq_of_getLsbD_eq
  intro k hk
  simp only [mkField, BitVec.getLsbD_append, BitVec.getLsbD_extractLsb']
  rw [if_pos (by omega), decide_eq_true hk, Bool.true_and, Nat.zero_add]

@[simp] theorem slotOf_mkField (hi lo : Byte) : slotOf (mkField hi lo) = lo := mkField_lo hi lo

theorem value_eq (p : SetupPacket) : p.value = mkField p.valueHi p.valueLo := (mkField_bytes p.value).symm

theorem index_eq (p : SetupPacket) : p.index = mkField p.entity p.slot := (mkField_bytes p.index).symm

/-- The channel a number names, and the number of a channel (R251). -/
theorem chan_ofByte_eq_some {b : Byte} {ch : Chan} : Chan.ofByte b = some ch ↔ b = ch.byte := by
  unfold Chan.ofByte
  constructor
  · split_ifs with h0 h1 h2 <;> intro h <;> cases h <;> assumption
  · rintro rfl; cases ch <;> rfl

@[simp] theorem chan_ofByte_byte (ch : Chan) : Chan.ofByte ch.byte = some ch := chan_ofByte_eq_some.2 rfl

/-- A number names a channel exactly where it is at most 2 (R251). -/
theorem chan_ofByte_eq_none {b : Byte} : Chan.ofByte b = none ↔ ¬b.toNat ≤ 2 := by
  revert b; decide

/-- The bytes of a packet are those of its fields, and back (R121). -/
theorem ofBytes_bytes (p : SetupPacket) : SetupPacket.ofBytes p.bytes = p := by
  have word : ∀ (v : BitVec 16) (r : Bytes), Bits.le16 (Bits.toLE16 v ++ r) = v := fun v r => by
    apply BitVec.eq_of_toNat_eq
    have hv := v.isLt
    simp [Bits.toLE16, Bits.toLE, Bits.le16, Bits.leNat, BitVec.toNat_ofNat]
    omega
  have tail : ∀ v : BitVec 16, Bits.le16 (Bits.toLE16 v) = v := fun v => by simpa using word v []
  have hlen : ∀ v : BitVec 16, ∃ x y, Bits.toLE16 v = [x, y] := fun v => ⟨_, _, rfl⟩
  obtain ⟨rt, rq, v, i, l⟩ := p
  obtain ⟨v0, v1, hv⟩ := hlen v
  obtain ⟨i0, i1, hi⟩ := hlen i
  have e0 := word v (Bits.toLE16 i ++ Bits.toLE16 l)
  have e1 := word i (Bits.toLE16 l)
  have e2 := tail l
  simp only [SetupPacket.bytes, hv, hi, List.cons_append, List.nil_append] at e0 e1 ⊢
  simp only [SetupPacket.ofBytes, List.drop_succ_cons, List.drop_zero, List.take_succ_cons, List.take_zero, e0, e1, e2,
    Bits.leNat]
  simp

theorem length_bytes (p : SetupPacket) : p.bytes.length = 8 := rfl

/-- Decoding a packet's bytes is decoding the packet. -/
theorem decode_bytes (c : Config) (p : SetupPacket) : decode c p.bytes = .ok (decodeSetup c p) := by
  rw [decode, if_pos (length_bytes p), ofBytes_bytes]

/-! ## From an operation to its packet and back -/

/-- What a well-formed record says of its interfaces and units (R506). -/
theorem WfConfig.units (c : WfConfig) : c.val.acIf.toNat < c.val.nIfSlots ∧ c.val.fuId ≠ c.val.clkId := by
  have h := c.ok
  simp only [Config.wf, Bool.and_eq_true, decide_eq_true_eq] at h
  tauto

/-- The Audio Control slot holds a handler (R28). -/
theorem hasOutHandler_acIf (c : WfConfig) : c.val.hasOutHandler c.val.acIf = true := by
  simp [Config.hasOutHandler, c.units.1]

/-- The selectors on the type and the recipient, and those on the request and its value, are apart (R122 to R127). -/
theorem codes_apart :
    Code.typeClass ≠ Code.typeStandard ∧ Code.typeVendor ≠ Code.typeStandard ∧ Code.typeClass ≠ Code.typeVendor ∧
    Code.rcptInterface ≠ Code.rcptDevice ∧ Code.rcptEndpoint ≠ Code.rcptDevice ∧ Code.rcptInterface ≠ Code.rcptEndpoint ∧
    Code.getDescriptor ≠ Code.getStatus ∧ Code.setConfiguration ≠ Code.setAddress ∧
    Code.descConfiguration ≠ Code.descDevice ∧ Code.descString ≠ Code.descDevice ∧
    Code.descString ≠ Code.descConfiguration ∧ Code.descQualifier ≠ Code.descDevice ∧
    Code.descQualifier ≠ Code.descConfiguration ∧ Code.descQualifier ≠ Code.descString ∧
    Code.range ≠ Code.cur ∧ Code.fuMute ≠ Code.fuVolume := by decide

/-- A class or vendor packet to an interface is decoded by R133's lines 11 to 13. -/
theorem decodeSetup_interface {c : Config} {p : SetupPacket} (ht : p.type = Code.typeClass ∨ p.type = Code.typeVendor)
    (hr : p.rcpt = Code.rcptInterface) : decodeSetup c p = decodeInterface c p := by
  obtain ⟨hcs, hvs, -, hid, -, hie, -⟩ := codes_apart
  have hns : p.type ≠ Code.typeStandard := by rcases ht with e | e <;> rw [e] <;> assumption
  simp [decodeSetup, hns, hr, ht, hie]

/-- An IN class packet to the Audio Control interface. -/
theorem decodeSetup_acIn (c : Config) (request : Byte) (value : BitVec 16) (entity : Byte) (length : BitVec 16) :
    decodeSetup c (acPacket c true request value entity length)
      = decodeAcIn c (acPacket c true request value entity length) := by
  rw [decodeSetup_interface (by simp [acPacket]) (by simp [acPacket])]
  simp [decodeInterface, acPacket, SetupPacket.slot, codes_apart.2.2.1]

/-- An OUT class packet of at most 64 bytes to the Audio Control interface. -/
theorem decodeSetup_acOut (c : Config) (request : Byte) (value : BitVec 16) (entity : Byte) {length : BitVec 16}
    (hl : length.toNat ≤ Const.ctrlOutMax) :
    decodeSetup c (acPacket c false request value entity length)
      = decodeAcOut c (acPacket c false request value entity length) (.setup length) := by
  rw [decodeSetup_interface (by simp [acPacket]) (by simp [acPacket])]
  simp [decodeInterface, acPacket, SetupPacket.slot, codes_apart.2.2.1, Nat.not_lt.2 hl]

/-- The fields of a packet to a control the Audio Control handler knows (R250, R260). -/
theorem acKnows_iff {c : Config} {ranged : Bool} {p : SetupPacket} :
    c.acKnows ranged p.request p.value p.entity = true ↔
      (p.request = Code.cur ∨ ranged = true ∧ p.request = Code.range) ∧
      (p.entity = c.fuId ∧ (p.valueHi = Code.fuVolume ∨ p.valueHi = Code.fuMute) ∧ (∃ ch : Chan, p.valueLo = ch.byte) ∨
        p.entity = c.clkId ∧ p.valueHi = Code.csSamFreq) := by
  have hch : p.valueLo.toNat ≤ 2 ↔ ∃ ch : Chan, p.valueLo = ch.byte := by
    rw [← not_iff_not, ← chan_ofByte_eq_none, Option.eq_none_iff_forall_ne_some]
    simp [chan_ofByte_eq_some]
  rw [← hch]
  simp [Config.acKnows, SetupPacket.valueHi, SetupPacket.valueLo, and_assoc]

/-- Everything the second table of R133 does with an IN packet. -/
theorem decodeAcIn_cases (c : WfConfig) (p : SetupPacket) :
    (∃ ch, p.entity = c.val.fuId ∧ p.valueLo = Chan.byte ch ∧
      ((p.valueHi = Code.fuVolume ∧ p.request = Code.cur ∧ decodeAcIn c.val p = .getCurVolume ch p.length) ∨
       (p.valueHi = Code.fuVolume ∧ p.request = Code.range ∧ decodeAcIn c.val p = .getRangeVolume ch p.length) ∨
       (p.valueHi = Code.fuMute ∧ p.request = Code.cur ∧ decodeAcIn c.val p = .getCurMute ch p.length) ∨
       (p.valueHi = Code.fuMute ∧ p.request = Code.range ∧ decodeAcIn c.val p = .getRangeMute ch p.length))) ∨
    (p.entity = c.val.clkId ∧ p.valueHi = Code.csSamFreq ∧
      ((p.request = Code.cur ∧ decodeAcIn c.val p = .getCurFreq p.valueLo p.length) ∨
       (p.request = Code.range ∧ decodeAcIn c.val p = .getRangeFreq p.valueLo p.length))) ∨
    (c.val.acKnows true p.request p.value p.entity = false ∧
      decodeAcIn c.val p = .acUnhandledIn p.request p.value p.entity p.length) := by
  have hne := c.units.2
  rw [← Bool.not_eq_true, acKnows_iff]
  unfold decodeAcIn
  by_cases hf : p.entity = c.val.fuId
  · cases hch : Chan.ofByte p.valueLo with
    | none => simp [hf, hne, ← chan_ofByte_eq_some, hch]
    | some ch =>
      have hb := chan_ofByte_eq_some.1 hch
      simp only [if_pos hf]
      split_ifs with hv hc hr hm hc hr
      · exact .inl ⟨ch, hf, hb, .inl ⟨hv, hc, rfl⟩⟩
      · exact .inl ⟨ch, hf, hb, .inr (.inl ⟨hv, hr, rfl⟩)⟩
      · exact .inr (.inr ⟨by tauto, rfl⟩)
      · exact .inl ⟨ch, hf, hb, .inr (.inr (.inl ⟨hm, hc, rfl⟩))⟩
      · exact .inl ⟨ch, hf, hb, .inr (.inr (.inr ⟨hm, hr, rfl⟩))⟩
      · exact .inr (.inr ⟨by tauto, rfl⟩)
      · exact .inr (.inr ⟨by tauto, rfl⟩)
  · simp only [if_neg hf]
    split_ifs with hk hc hr
    · exact .inr (.inl ⟨hk.1, hk.2, .inl ⟨hc, rfl⟩⟩)
    · exact .inr (.inl ⟨hk.1, hk.2, .inr ⟨hr, rfl⟩⟩)
    · exact .inr (.inr ⟨by tauto, rfl⟩)
    · exact .inr (.inr ⟨by tauto, rfl⟩)

/-- Everything the second table of R133 does with an OUT packet. -/
theorem decodeAcOut_cases (c : WfConfig) (p : SetupPacket) (stage : OutStage) :
    (∃ ch, p.entity = c.val.fuId ∧ p.valueLo = Chan.byte ch ∧ p.request = Code.cur ∧
      ((p.valueHi = Code.fuVolume ∧ decodeAcOut c.val p stage = .setCurVolume ch stage) ∨
       (p.valueHi = Code.fuMute ∧ decodeAcOut c.val p stage = .setCurMute ch stage))) ∨
    (p.entity = c.val.clkId ∧ p.valueHi = Code.csSamFreq ∧ p.request = Code.cur ∧
      decodeAcOut c.val p stage = .setCurFreq p.valueLo stage) ∨
    (c.val.acKnows false p.request p.value p.entity = false ∧
      decodeAcOut c.val p stage = .acUnhandledOut p.request p.value p.entity stage) := by
  have hne := c.units.2
  rw [← Bool.not_eq_true, acKnows_iff]
  unfold decodeAcOut
  by_cases hr : p.request = Code.cur
  · by_cases hf : p.entity = c.val.fuId
    · cases hch : Chan.ofByte p.valueLo with
      | none => simp [hf, hne, ← chan_ofByte_eq_some, hch]
      | some ch =>
        have hb := chan_ofByte_eq_some.1 hch
        simp only [if_pos hr, if_pos hf]
        split_ifs with hv hm
        · exact .inl ⟨ch, hf, hb, hr, .inl ⟨hv, rfl⟩⟩
        · exact .inl ⟨ch, hf, hb, hr, .inr ⟨hm, rfl⟩⟩
        · exact .inr (.inr ⟨by tauto, rfl⟩)
    · simp only [if_pos hr, if_neg hf]
      split_ifs with hk
      · exact .inr (.inl ⟨hk.1, hk.2, hr, rfl⟩)
      · exact .inr (.inr ⟨by tauto, rfl⟩)
  · simp [hr]

/-! ## Decoding an operation's packet -/

/-- The entity and the bytes of the value of a packet to the Audio Control interface (R130). -/
theorem acPacket_fields (c : Config) (dirIn : Bool) (request hi lo entity : Byte) (length : BitVec 16) :
    let p := acPacket c dirIn request (mkField hi lo) entity length
    p.request = request ∧ p.valueHi = hi ∧ p.valueLo = lo ∧ p.entity = entity ∧ p.length = length :=
  ⟨rfl, mkField_hi hi lo, mkField_lo hi lo, mkField_hi entity c.acIf, rfl⟩

/-- A GET_DESCRIPTOR packet is decoded by its descriptor type (R125). -/
theorem decodeSetup_getDescriptor (c : Config) (t i : Byte) (index length : BitVec 16) :
    decodeSetup c (getDescriptorPacket t i index length) =
      if t = Code.descDevice then .getDescriptorDevice i index length
      else if t = Code.descConfiguration then .getDescriptorConfiguration i index length
      else if t = Code.descString then .getDescriptorString i index length
      else if t = Code.descQualifier then .getDescriptorQualifier i index length
      else .getDescriptorOther t i index length := by
  simp [decodeSetup, getDescriptorPacket, decodeDeviceIn, SetupPacket.valueHi, SetupPacket.valueLo,
    codes_apart.2.2.2.2.2.2.1]

/-- A class packet to an interface other than Audio Control, or a vendor packet, is decoded by direction and length. -/
theorem decodeSetup_interfacePacket (c : Config) (dirIn vendor : Bool) (request : Byte) (value index length : BitVec 16)
    (hac : vendor = true ∨ slotOf index ≠ c.acIf) :
    decodeSetup c (interfacePacket dirIn (vendorOr vendor Code.typeClass) request value index length) =
      if dirIn then if vendor then .classInVendor request value index length else .classIn request value index length
      else if Const.ctrlOutMax < length.toNat ∧ c.hasOutHandler (slotOf index) = true then
        .classOutOversize vendor request value index length
      else if vendor then
        if length = 0 then .classOut0Vendor request value index else .classOutVendor request value index length
      else if length = 0 then .classOut0 request value index else .classOut request value index length := by
  have ht : (interfacePacket dirIn (vendorOr vendor Code.typeClass) request value index length).type
      = vendorOr vendor Code.typeClass := by simp [interfacePacket]
  rw [decodeSetup_interface (by rw [ht]; cases vendor <;> simp [vendorOr]) (by simp [interfacePacket])]
  unfold decodeInterface
  rw [ht]
  cases vendor with
  | true => simp [interfacePacket, vendorOr, SetupPacket.slot]
  | false =>
    simp [interfacePacket, vendorOr, SetupPacket.slot, codes_apart.2.2.1, hac.resolve_left (by simp)]

end Sys2Proof
end

section
set_option Elab.async false
/-! PROOFS. The encoder and the decoder are inverse to each other, and running the row a packet decodes to is the
dispatch of the packet (spec/30_encoding.md R121, R133; spec/40_control_dispatch.md R172). -/

namespace Sys2Proof

/-- The packets some line of R133 before UNHANDLED selects. -/
theorem routed_iff {c : Config} {p : SetupPacket} : c.routed p = true ↔
    (p.dirIn = true ∧ p.type = Code.typeStandard ∧ p.rcpt = Code.rcptDevice ∧
      (p.request = Code.getStatus ∨ p.request = Code.getDescriptor)) ∨
    (p.dirIn = false ∧ p.type = Code.typeStandard ∧ p.rcpt = Code.rcptDevice ∧
      (p.request = Code.setAddress ∨ p.request = Code.setConfiguration)) ∨
    (p.dirIn = false ∧ p.type = Code.typeStandard ∧ p.rcpt = Code.rcptInterface ∧ p.request = Code.setInterface) ∨
    (p.dirIn = false ∧ (p.type = Code.typeStandard ∨ p.type = Code.typeVendor) ∧ p.rcpt = Code.rcptEndpoint ∧
      p.request = c.reqClear ∧ p.index = c.clearEpIndex) ∨
    ((p.type = Code.typeClass ∨ p.type = Code.typeVendor) ∧ p.rcpt = Code.rcptInterface) := by
  simp only [Config.routed, SetupPacket.dirIn, SetupPacket.type, SetupPacket.rcpt, Bool.or_eq_true, Bool.and_eq_true,
    decide_eq_true_eq, Bool.not_eq_true', and_assoc, or_assoc]

/-- R133's last line: every other packet is UNHANDLED. -/
theorem decodeSetup_unrouted {c : Config} {p : SetupPacket} (h : c.routed p = false) :
    decodeSetup c p = .unhandled p := by
  rw [← Bool.not_eq_true, routed_iff] at h
  simp only [not_or] at h
  obtain ⟨hin, hout, hif, hep, hcl⟩ := h
  unfold decodeSetup
  by_cases h1 : p.type = Code.typeStandard ∧ p.rcpt = Code.rcptDevice ∧ p.dirIn = true
  · obtain ⟨ht, hr, hd⟩ := h1
    rw [if_pos ⟨ht, hr, hd⟩, decodeDeviceIn, if_neg fun e => hin ⟨hd, ht, hr, .inl e⟩,
      if_neg fun e => hin ⟨hd, ht, hr, .inr e⟩]
  rw [if_neg h1]
  by_cases h2 : p.type = Code.typeStandard ∧ p.rcpt = Code.rcptDevice
  · obtain ⟨ht, hr⟩ := h2
    have hd : p.dirIn = false := Bool.eq_false_iff.2 fun hd => h1 ⟨ht, hr, hd⟩
    rw [if_pos ⟨ht, hr⟩, if_neg fun e => hout ⟨hd, ht, hr, .inl e⟩, if_neg fun e => hout ⟨hd, ht, hr, .inr e⟩]
  rw [if_neg h2]
  by_cases h3 : p.type = Code.typeStandard ∧ p.rcpt = Code.rcptInterface ∧ p.dirIn = false
  · obtain ⟨ht, hr, hd⟩ := h3
    rw [if_pos ⟨ht, hr, hd⟩, if_neg fun e => hif ⟨hd, ht, hr, e⟩]
  rw [if_neg h3, if_neg fun ⟨ht, hr, hd, hq, hx⟩ => hep ⟨hd, ht, hr, hq, hx⟩, if_neg hcl]

@[simp] theorem acPacket_entity (c : Config) (dirIn : Bool) (request : Byte) (value : BitVec 16) (entity : Byte)
    (length : BitVec 16) : (acPacket c dirIn request value entity length).entity = entity := mkField_hi entity c.acIf

/-- A packet to no control the handler knows goes to AC_UNHANDLED.IN (R133). -/
theorem decodeAcIn_unknown {c : WfConfig} {p : SetupPacket} (h : c.val.acKnows true p.request p.value p.entity = false) :
    decodeAcIn c.val p = .acUnhandledIn p.request p.value p.entity p.length := by
  rw [← Bool.not_eq_true, acKnows_iff] at h
  rcases decodeAcIn_cases c p with ⟨ch, he, hl, ⟨hv, hr, -⟩ | ⟨hv, hr, -⟩ | ⟨hv, hr, -⟩ | ⟨hv, hr, -⟩⟩ |
    ⟨he, hv, ⟨hr, -⟩ | ⟨hr, -⟩⟩ | ⟨-, e⟩
  · exact absurd ⟨.inl hr, .inl ⟨he, .inl hv, ch, hl⟩⟩ h
  · exact absurd ⟨.inr ⟨rfl, hr⟩, .inl ⟨he, .inl hv, ch, hl⟩⟩ h
  · exact absurd ⟨.inl hr, .inl ⟨he, .inr hv, ch, hl⟩⟩ h
  · exact absurd ⟨.inr ⟨rfl, hr⟩, .inl ⟨he, .inr hv, ch, hl⟩⟩ h
  · exact absurd ⟨.inl hr, .inr ⟨he, hv⟩⟩ h
  · exact absurd ⟨.inr ⟨rfl, hr⟩, .inr ⟨he, hv⟩⟩ h
  · exact e

/-- A packet to no control the handler knows goes to AC_UNHANDLED.OUT (R133). -/
theorem decodeAcOut_unknown {c : WfConfig} {p : SetupPacket} {stage : OutStage}
    (h : c.val.acKnows false p.request p.value p.entity = false) :
    decodeAcOut c.val p stage = .acUnhandledOut p.request p.value p.entity stage := by
  rw [← Bool.not_eq_true, acKnows_iff] at h
  rcases decodeAcOut_cases c p stage with ⟨ch, he, hl, hr, ⟨hv, -⟩ | ⟨hv, -⟩⟩ | ⟨he, hv, hr, -⟩ | ⟨-, e⟩
  · exact absurd ⟨.inl hr, .inl ⟨he, .inl hv, ch, hl⟩⟩ h
  · exact absurd ⟨.inl hr, .inl ⟨he, .inr hv, ch, hl⟩⟩ h
  · exact absurd ⟨.inl hr, .inr ⟨he, hv⟩⟩ h
  · exact e

/-- Decoding the packet of a well-formed setup-selected operation gives it back. -/
theorem decodeSetup_encodePacket (c : WfConfig) {i : Instr} {p : SetupPacket} (hw : i.wf c.val = true)
    (hp : encodePacket c.val i = some p) : decodeSetup c.val p = i := by
  obtain ⟨hcs, hvs, hcv, hid, hed, hie, hgd, hsc, hd2, hd3, hd32, hd4, hd42, hd43, hrc, hmv⟩ := codes_apart
  have hne := Ne.symm c.units.2
  have hac := hasOutHandler_acIf c
  have other : ∀ {length index : BitVec 16},
      (length.toNat ≤ Const.ctrlOutMax ∨ c.val.hasOutHandler (slotOf index) = false) →
      ¬(Const.ctrlOutMax < length.toNat ∧ c.val.hasOutHandler (slotOf index) = true) := by
    rintro l x (h | h) ⟨h1, h2⟩
    · omega
    · rw [h] at h2; cases h2
  cases i with
  | getStatus v x l => cases hp; simp [decodeSetup, decodeDeviceIn]
  | getDescriptorDevice i x l => cases hp; simp [decodeSetup_getDescriptor]
  | getDescriptorConfiguration i x l => cases hp; simp [decodeSetup_getDescriptor, hd2]
  | getDescriptorString i x l => cases hp; simp [decodeSetup_getDescriptor, hd3, hd32]
  | getDescriptorQualifier i x l => cases hp; simp [decodeSetup_getDescriptor, hd4, hd42, hd43]
  | getDescriptorOther t i x l =>
    cases hp
    simp only [Instr.wf, Bool.and_eq_true, decide_eq_true_eq] at hw
    obtain ⟨⟨⟨h1, h2⟩, h3⟩, h4⟩ := hw
    simp [decodeSetup_getDescriptor, h1, h2, h3, h4]
  | setAddress v x l => cases hp; simp [decodeSetup]
  | setConfiguration v x l => cases hp; simp [decodeSetup, hsc]
  | setInterface v x l => cases hp; simp [decodeSetup, hid]
  | epClear vendor v l => cases hp; cases vendor <;> simp [decodeSetup, vendorOr, hvs, hvs.symm, hed, hie.symm]
  | classIn r v x l =>
    cases hp
    exact decodeSetup_interfacePacket c.val true false r v x l (.inr (of_decide_eq_true hw))
  | classInVendor r v x l => cases hp; exact decodeSetup_interfacePacket c.val true true r v x l (.inl rfl)
  | classOut0 r v x =>
    cases hp
    exact decodeSetup_interfacePacket c.val false false r v x 0 (.inr (of_decide_eq_true hw))
  | classOut0Vendor r v x => cases hp; exact decodeSetup_interfacePacket c.val false true r v x 0 (.inl rfl)
  | classOut r v x l =>
    cases hp
    simp only [Instr.wf, Bool.and_eq_true, Bool.or_eq_true, decide_eq_true_eq, Bool.not_eq_true'] at hw
    obtain ⟨⟨h0, hs⟩, hl⟩ := hw
    refine (decodeSetup_interfacePacket c.val false false r v x l (.inr hs)).trans ?_
    simp only [Bool.false_eq_true, if_false, if_neg (other hl), if_neg h0]
  | classOutVendor r v x l =>
    cases hp
    simp only [Instr.wf, Bool.and_eq_true, Bool.or_eq_true, decide_eq_true_eq, Bool.not_eq_true'] at hw
    obtain ⟨h0, hl⟩ := hw
    refine (decodeSetup_interfacePacket c.val false true r v x l (.inl rfl)).trans ?_
    simp only [Bool.false_eq_true, if_false, if_true, if_neg (other hl), if_neg h0]
  | classOutOversize vendor r v x l =>
    cases hp
    simp only [Instr.wf, Bool.and_eq_true, decide_eq_true_eq] at hw
    rw [decodeSetup_interface (by cases vendor <;> simp [interfacePacket, vendorOr]) (by simp [interfacePacket])]
    cases vendor <;> simp [decodeInterface, interfacePacket, vendorOr, SetupPacket.slot, hw, hcv]
  | unhandled q =>
    cases hp
    exact decodeSetup_unrouted (by simpa [Instr.wf] using hw)
  | getCurVolume ch l => cases hp; rw [decodeSetup_acIn]; simp [decodeAcIn, acPacket_fields]
  | getRangeVolume ch l => cases hp; rw [decodeSetup_acIn]; simp [decodeAcIn, acPacket_fields, hrc]
  | getCurMute ch l => cases hp; rw [decodeSetup_acIn]; simp [decodeAcIn, acPacket_fields, hmv]
  | getRangeMute ch l => cases hp; rw [decodeSetup_acIn]; simp [decodeAcIn, acPacket_fields, hmv, hrc]
  | getCurFreq ch l => cases hp; rw [decodeSetup_acIn]; simp [decodeAcIn, acPacket_fields, hne]
  | getRangeFreq ch l => cases hp; rw [decodeSetup_acIn]; simp [decodeAcIn, acPacket_fields, hne, hrc]
  | acUnhandledIn r v e l =>
    cases hp
    rw [decodeSetup_acIn, decodeAcIn_unknown]
    · rw [acPacket_entity]; rfl
    · rw [acPacket_entity]; have hk : c.val.acKnows true r v e = false := by simpa only [Instr.wf, Bool.not_eq_true'] using hw
      exact hk
  | setCurVolume ch stage =>
    cases stage with
    | payload b => cases hp
    | setup l => cases hp; rw [decodeSetup_acOut _ _ _ _ (of_decide_eq_true hw)]; simp [decodeAcOut, acPacket_fields]
  | setCurMute ch stage =>
    cases stage with
    | payload b => cases hp
    | setup l =>
      cases hp; rw [decodeSetup_acOut _ _ _ _ (of_decide_eq_true hw)]; simp [decodeAcOut, acPacket_fields, hmv]
  | setCurFreq ch stage =>
    cases stage with
    | payload b => cases hp
    | setup l =>
      cases hp; rw [decodeSetup_acOut _ _ _ _ (of_decide_eq_true hw)]; simp [decodeAcOut, acPacket_fields, hne]
  | acUnhandledOut r v e stage =>
    cases stage with
    | payload b => cases hp
    | setup l =>
      cases hp
      simp only [Instr.wf, Bool.and_eq_true, Bool.not_eq_true', OutStage.ok, decide_eq_true_eq] at hw
      rw [decodeSetup_acOut _ _ _ _ hw.2, decodeAcOut_unknown]
      · rw [acPacket_entity]; rfl
      · rw [acPacket_entity]; exact hw.1
  | _ => cases hp

/-- Settles O2: decoding the bytes is decoding the packet, and the packet of each row goes back to its row. -/
theorem decodeOfEncode : Obligations.DecodeOfEncode := by
  intro c i b hw he
  obtain ⟨p, hp, rfl⟩ := Option.map_eq_some_iff.1 he
  rw [decode_bytes, decodeSetup_encodePacket c hw hp]

/-! ## Encoding the operation a packet selects -/

/-- A packet is the one of its fields. -/
theorem packet_eq {p : SetupPacket} {d : Bool} {t : BitVec 2} {r : BitVec 5} {q : Byte} (hd : p.dirIn = d)
    (ht : p.type = t) (hr : p.rcpt = r) (hq : p.request = q) :
    p = ⟨mkRequestType d t r, q, p.value, p.index, p.length⟩ := by
  rw [← hd, ← ht, ← hr, ← hq, ← requestType_eq]

/-- A class or vendor packet to an interface is the interface packet of its fields. -/
theorem interfacePacket_eq {p : SetupPacket} {d : Bool} {t : BitVec 2} (hd : p.dirIn = d) (ht : p.type = t)
    (hr : p.rcpt = Code.rcptInterface) : p = interfacePacket d t p.request p.value p.index p.length :=
  packet_eq hd ht hr rfl

/-- A class packet to the Audio Control interface is the one of its fields. -/
theorem acPacket_eq {c : Config} {p : SetupPacket} {d : Bool} (hd : p.dirIn = d) (ht : p.type = Code.typeClass)
    (hr : p.rcpt = Code.rcptInterface) (hs : p.slot = c.acIf) :
    p = acPacket c d p.request p.value p.entity p.length := by
  rw [acPacket, ← hs, ← index_eq]
  exact packet_eq hd ht hr rfl

/-- The row of an IN packet to the Audio Control interface encodes it, with well-formed operands. -/
theorem encodePacket_decodeAcIn {c : WfConfig} {p : SetupPacket} (hd : p.dirIn = true) (ht : p.type = Code.typeClass)
    (hr : p.rcpt = Code.rcptInterface) (hs : p.slot = c.val.acIf) :
    encodePacket c.val (decodeAcIn c.val p) = some p ∧ (decodeAcIn c.val p).wf c.val = true := by
  have hp := acPacket_eq hd ht hr hs
  rcases decodeAcIn_cases c p with ⟨ch, he, hl, ⟨hv, hq, e⟩ | ⟨hv, hq, e⟩ | ⟨hv, hq, e⟩ | ⟨hv, hq, e⟩⟩ |
    ⟨he, hv, ⟨hq, e⟩ | ⟨hq, e⟩⟩ | ⟨hk, e⟩ <;> rw [e]
  case inr.inr => exact ⟨congrArg some hp.symm, by simp [Instr.wf, hk]⟩
  all_goals
    refine ⟨?_, rfl⟩
    rw [encodePacket, ← hv, ← he, ← hq, Option.some.injEq]
  iterate 4 rw [← hl, ← value_eq]; exact hp.symm
  iterate 2 rw [← value_eq]; exact hp.symm

/-- The row of an OUT packet of at most 64 bytes to the Audio Control interface encodes it. -/
theorem encodePacket_decodeAcOut {c : WfConfig} {p : SetupPacket} (hd : p.dirIn = false)
    (ht : p.type = Code.typeClass) (hr : p.rcpt = Code.rcptInterface) (hs : p.slot = c.val.acIf)
    (hn : p.length.toNat ≤ Const.ctrlOutMax) :
    encodePacket c.val (decodeAcOut c.val p (.setup p.length)) = some p ∧
      (decodeAcOut c.val p (.setup p.length)).wf c.val = true := by
  have hp := acPacket_eq hd ht hr hs
  have hstage : (OutStage.setup p.length).ok = true := decide_eq_true hn
  rcases decodeAcOut_cases c p (.setup p.length) with ⟨ch, he, hl, hq, ⟨hv, e⟩ | ⟨hv, e⟩⟩ | ⟨he, hv, hq, e⟩ | ⟨hk, e⟩ <;>
    rw [e]
  case inr.inr => exact ⟨congrArg some hp.symm, by simp [Instr.wf, hk, hstage]⟩
  all_goals
    refine ⟨?_, hstage⟩
    rw [encodePacket, ← hv, ← he, ← hq, Option.some.injEq]
  iterate 2 rw [← hl, ← value_eq]; exact hp.symm
  rw [← value_eq]; exact hp.symm

/-- The row of a class or vendor packet to an interface encodes it. -/
theorem encodePacket_decodeInterface {c : WfConfig} {p : SetupPacket}
    (ht : p.type = Code.typeClass ∨ p.type = Code.typeVendor) (hr : p.rcpt = Code.rcptInterface) :
    encodePacket c.val (decodeInterface c.val p) = some p ∧ (decodeInterface c.val p).wf c.val = true := by
  have fits : ¬(Const.ctrlOutMax < p.length.toNat ∧ c.val.hasOutHandler p.slot = true) →
      p.length.toNat ≤ Const.ctrlOutMax ∨ c.val.hasOutHandler p.slot = false := fun h =>
    (not_and_or.1 h).imp Nat.not_lt.1 Bool.eq_false_iff.2
  unfold decodeInterface
  by_cases hv : p.type = Code.typeVendor
  · simp only [hv, decide_true, if_true]
    split_ifs with hd ho h0
    · exact ⟨congrArg some (interfacePacket_eq hd hv hr).symm, rfl⟩
    · exact ⟨congrArg some (interfacePacket_eq (Bool.eq_false_iff.2 hd) hv hr).symm,
        by simpa [Instr.wf, SetupPacket.slot] using ho⟩
    · refine ⟨?_, rfl⟩
      have hp := interfacePacket_eq (Bool.eq_false_iff.2 hd) hv hr
      rw [h0] at hp
      exact congrArg some hp.symm
    · refine ⟨congrArg some (interfacePacket_eq (Bool.eq_false_iff.2 hd) hv hr).symm, ?_⟩
      simp only [Instr.wf, Bool.and_eq_true, decide_eq_true_eq, Bool.or_eq_true, Bool.not_eq_true']
      exact ⟨h0, fits ho⟩
  · have hc := ht.resolve_right hv
    simp only [hv, decide_false, Bool.false_eq_true, if_false]
    split_ifs with hd hs ho hs h0
    · exact encodePacket_decodeAcIn hd hc hr hs
    · exact ⟨congrArg some (interfacePacket_eq hd hc hr).symm, decide_eq_true hs⟩
    · exact ⟨congrArg some (interfacePacket_eq (Bool.eq_false_iff.2 hd) hc hr).symm,
        by simpa [Instr.wf, SetupPacket.slot] using ho⟩
    · refine encodePacket_decodeAcOut (Bool.eq_false_iff.2 hd) hc hr hs (Nat.not_lt.1 fun h => ho ⟨h, ?_⟩)
      rw [hs, hasOutHandler_acIf]
    · refine ⟨?_, decide_eq_true hs⟩
      have hp := interfacePacket_eq (Bool.eq_false_iff.2 hd) hc hr
      rw [h0] at hp
      exact congrArg some hp.symm
    · refine ⟨congrArg some (interfacePacket_eq (Bool.eq_false_iff.2 hd) hc hr).symm, ?_⟩
      simp only [Instr.wf, Bool.and_eq_true, decide_eq_true_eq, Bool.or_eq_true, Bool.not_eq_true']
      exact ⟨⟨h0, hs⟩, fits ho⟩

/-- The row of a GET_DESCRIPTOR packet encodes it. -/
theorem encodePacket_getDescriptor (c : Config) (t i : Byte) (index length : BitVec 16) :
    encodePacket c (decodeSetup c (getDescriptorPacket t i index length)) =
        some (getDescriptorPacket t i index length) ∧
      (decodeSetup c (getDescriptorPacket t i index length)).wf c = true := by
  rw [decodeSetup_getDescriptor]
  split_ifs with h1 h2 h3 h4
  · exact ⟨by rw [h1]; rfl, rfl⟩
  · exact ⟨by rw [h2]; rfl, rfl⟩
  · exact ⟨by rw [h3]; rfl, rfl⟩
  · exact ⟨by rw [h4]; rfl, rfl⟩
  · exact ⟨rfl, by simp [Instr.wf, h1, h2, h3, h4]⟩

/-- Settles O3, along R133's lines. -/
theorem encodeOfDecode : Obligations.EncodeOfDecode := by
  intro c p
  have of_row : ∀ i : Instr, i.wf c.val = true → encodePacket c.val i = some p →
      encodePacket c.val (decodeSetup c.val p) = some p ∧ (decodeSetup c.val p).wf c.val = true := by
    intro i hw hp
    rw [decodeSetup_encodePacket c hw hp]
    exact ⟨hp, hw⟩
  by_cases hrouted : c.val.routed p = true
  · rcases routed_iff.1 hrouted with ⟨hd, ht, hr, hq | hq⟩ | ⟨hd, ht, hr, hq | hq⟩ | ⟨hd, ht, hr, hq⟩ |
      ⟨hd, ht | ht, hr, hq, hx⟩ | ⟨ht, hr⟩
    · exact of_row (.getStatus p.value p.index p.length) rfl (congrArg some (packet_eq hd ht hr hq).symm)
    · have hp := packet_eq hd ht hr hq
      rw [value_eq p] at hp
      rw [hp]
      exact encodePacket_getDescriptor c.val p.valueHi p.valueLo p.index p.length
    · exact of_row (.setAddress p.value p.index p.length) rfl (congrArg some (packet_eq hd ht hr hq).symm)
    · exact of_row (.setConfiguration p.value p.index p.length) rfl (congrArg some (packet_eq hd ht hr hq).symm)
    · exact of_row (.setInterface p.value p.index p.length) rfl (congrArg some (packet_eq hd ht hr hq).symm)
    · exact of_row (.epClear false p.value p.length) rfl
        (congrArg some ((packet_eq hd ht hr hq).trans (by rw [hx]; rfl)).symm)
    · exact of_row (.epClear true p.value p.length) rfl
        (congrArg some ((packet_eq hd ht hr hq).trans (by rw [hx]; rfl)).symm)
    · rw [decodeSetup_interface ht hr]
      exact encodePacket_decodeInterface ht hr
  · exact of_row (.unhandled p) (by simpa only [Instr.wf, Bool.not_eq_true', Bool.not_eq_true] using hrouted) rfl

end Sys2Proof
end

section
set_option Elab.async false
/-! PROOFS. Running the row a packet decodes to is the dispatch of the packet (spec/40_control_dispatch.md R170, R172;
spec/30_encoding.md R133). -/

namespace Sys2Proof.Machine

theorem inHandler_acIf (c : WfConfig) : inHandler c.val c.val.acIf = some .audioControl := by
  rw [inHandler, if_neg (Nat.not_le.2 c.units.1), if_pos rfl]

theorem outHandler_acIf (c : WfConfig) : outHandler c.val c.val.acIf = some .audioControl := by
  rw [outHandler, if_neg (Nat.not_le.2 c.units.1), if_pos rfl]

/-- A slot with a handler gives one, a slot without none (R28). -/
theorem outHandler_isSome {c : Config} {i : Byte} (h : c.hasOutHandler i = true) : ∃ k, outHandler c i = some k :=
  Option.isSome_iff_exists.1 (hasOutHandler_eq c i ▸ h)

theorem outHandler_eq_none {c : Config} {i : Byte} (h : c.hasOutHandler i = false) : outHandler c i = none := by
  rw [hasOutHandler_eq] at h
  exact Option.isSome_eq_false_iff.1 h |> Option.isNone_iff_eq_none.1

theorem chan_byte_le (ch : Chan) : ch.byte.toNat ≤ 2 := by cases ch <;> decide

/-! ## The Audio Control handler on the controls it knows, and on the others -/

section
variable {p : SetupPacket} {s : State} {ch : Chan} (ht : p.type = Code.typeClass)
include ht

theorem acIn_volume (he : p.entity = s.cfg.val.fuId) (hv : p.valueHi = Code.fuVolume) (hl : p.valueLo = ch.byte) :
    acIn p s = if p.request = Code.cur then some (volumeReply ch s)
      else if p.request = Code.range then some volumeRangeBlock else none := by
  have hch := chan_byte_le ch
  simp only [acIn, ne_eq, ht, not_true_eq_false, if_false, he, hv, hl, hch, and_self, if_true, chan_ofByte_byte,
    Option.map_some]

theorem acIn_mute (he : p.entity = s.cfg.val.fuId) (hv : p.valueHi = Code.fuMute) (hl : p.valueLo = ch.byte) :
    acIn p s = if p.request = Code.cur then some (muteReply ch s)
      else if p.request = Code.range then s.cfg.val.muteRangeReply else none := by
  have hch := chan_byte_le ch
  have hne : ¬Code.fuMute = Code.fuVolume := by decide
  simp only [acIn, ne_eq, ht, not_true_eq_false, if_false, he, hv, hl, hch, and_self, if_true, chan_ofByte_byte,
    Option.map_some, hne, false_and, and_false]

theorem acIn_freq (he : p.entity = s.cfg.val.clkId) (hv : p.valueHi = Code.csSamFreq) :
    acIn p s = if p.request = Code.cur then some (freqReply s)
      else if p.request = Code.range then some freqRangeBlock else none := by
  have hne : ¬s.cfg.val.clkId = s.cfg.val.fuId := Ne.symm s.cfg.units.2
  simp only [acIn, ne_eq, ht, not_true_eq_false, if_false, he, hv, hne, false_and, and_self, if_true]

end

/-- The handler answers `Unhandled` to a packet to no control it knows (R250, R258). -/
theorem acIn_unknown {p : SetupPacket} {s : State} (h : s.cfg.val.acKnows true p.request p.value p.entity = false) :
    acIn p s = none := by
  rw [← Bool.not_eq_true, acKnows_iff] at h
  have hch : p.valueLo.toNat ≤ 2 → ∃ ch : Chan, p.valueLo = ch.byte := fun hle => by
    cases hc : Chan.ofByte p.valueLo with
    | none => exact absurd hle (chan_ofByte_eq_none.1 hc)
    | some ch => exact ⟨ch, chan_ofByte_eq_some.1 hc⟩
  unfold acIn
  dsimp only
  split_ifs with ht hv hc hr hm hc hr hk hc hr
  · rfl
  · exact absurd ⟨.inl hc, .inl ⟨hv.1, .inl hv.2.1, hch hv.2.2⟩⟩ h
  · exact absurd ⟨.inr ⟨rfl, hr⟩, .inl ⟨hv.1, .inl hv.2.1, hch hv.2.2⟩⟩ h
  · rfl
  · exact absurd ⟨.inl hc, .inl ⟨hm.1, .inr hm.2.1, hch hm.2.2⟩⟩ h
  · exact absurd ⟨.inr ⟨rfl, hr⟩, .inl ⟨hm.1, .inr hm.2.1, hch hm.2.2⟩⟩ h
  · rfl
  · exact absurd ⟨.inl hc, .inr hk⟩ h
  · exact absurd ⟨.inr ⟨rfl, hr⟩, .inr hk⟩ h
  · rfl
  · rfl

/-! ## The rows of class and vendor requests -/

section
variable {p : SetupPacket} {s : State}

/-- An IN row of the Audio Control interface is `CLASS_IN` of its packet (R244, R250). -/
theorem exec_decodeAcIn (ht : p.type = Code.typeClass) (hs : p.slot = s.cfg.val.acIf) :
    exec (decodeAcIn s.cfg.val p) s = live s (classIn p s) := by
  have hin : classIn p s = replyIn (acIn p s) p.length s := by rw [classIn, hs, inHandler_acIf]
  have hrc : ¬Code.range = Code.cur := by decide
  rw [hin]
  rcases decodeAcIn_cases s.cfg p with
    ⟨ch, he, hl, ⟨hv, hq, e⟩ | ⟨hv, hq, e⟩ | ⟨hv, hq, e⟩ | ⟨hv, hq, e⟩⟩ | ⟨he, hv, ⟨hq, e⟩ | ⟨hq, e⟩⟩ | ⟨hk, e⟩ <;> rw [e]
  · rw [acIn_volume ht he hv hl, if_pos hq]; rfl
  · rw [acIn_volume ht he hv hl, hq, if_neg hrc, if_pos rfl]; rfl
  · rw [acIn_mute ht he hv hl, if_pos hq]; rfl
  · rw [acIn_mute ht he hv hl, hq, if_neg hrc, if_pos rfl]; rfl
  · rw [acIn_freq ht he hv, if_pos hq]; rfl
  · rw [acIn_freq ht he hv, hq, if_neg hrc, if_pos rfl]; rfl
  · rw [acIn_unknown hk]; rfl

/-- The setup word of an OUT row of the Audio Control interface is routed as its packet (R242, R260). -/
theorem exec_decodeAcOut (hd : p.dirIn = false) (ht : p.type = Code.typeClass) (hr : p.rcpt = Code.rcptInterface)
    (hs : p.slot = s.cfg.val.acIf) :
    exec (decodeAcOut s.cfg.val p (.setup p.length)) s = live s (routeOut p s) := by
  have stage : acSetupStage p.request p.value p.entity p.length s = routeOut p s := by
    rw [acSetupStage, ← acPacket_eq hd ht hr hs]
  have hval := value_eq p
  rw [← stage]
  rcases decodeAcOut_cases s.cfg p (.setup p.length) with
    ⟨ch, he, hl, hq, ⟨hv, e⟩ | ⟨hv, e⟩⟩ | ⟨he, hv, hq, e⟩ | ⟨-, e⟩ <;> rw [e]
  · rw [hval, hv, hl, hq, he]; rfl
  · rw [hval, hv, hl, hq, he]; rfl
  · rw [hval, hv, hq, he]; rfl
  · rfl

/-- The row of a class or vendor packet to an interface routes the packet (R242). -/
theorem exec_decodeInterface (ht : p.type = Code.typeClass ∨ p.type = Code.typeVendor)
    (hr : p.rcpt = Code.rcptInterface) : exec (decodeInterface s.cfg.val p) s = live s (routeClass p s) := by
  have hp : ∀ {d t}, p.dirIn = d → p.type = t → interfacePacket d t p.request p.value p.index p.length = p :=
    fun hd ht => (interfacePacket_eq hd ht hr).symm
  unfold decodeInterface
  cases hd : p.dirIn with
  | true =>
    rw [routeClass, hd, if_pos rfl, if_pos rfl]
    split_ifs with hv hs
    · show live s (classIn _ s) = _
      rw [hp hd (of_decide_eq_true hv)]
    · exact exec_decodeAcIn (ht.resolve_right (by simpa using hv)) hs
    · show live s (classIn _ s) = _
      rw [hp hd (ht.resolve_right (by simpa using hv))]
  | false =>
    rw [routeClass, hd, if_neg Bool.false_ne_true, if_neg Bool.false_ne_true]
    have hpos : p.length ≠ 0 → routeOut p s = classOut p s := fun h => by rw [routeOut, if_neg h]
    have hzero : p.length = 0 → routeOut p s = classOut0 p s := fun h => by rw [routeOut, if_pos h]
    split_ifs with ho hv h0 hs h0
    · obtain ⟨k, hk⟩ := outHandler_isSome ho.2
      rw [hpos (by rintro h; rw [h] at ho; exact absurd ho.1 (by decide)), classOut, hk, exec_classOutOversize]
      simp only [if_pos ho.1]
    · have hpk := hp hd (of_decide_eq_true hv)
      rw [h0] at hpk
      show live s (classOut0 _ s) = _
      rw [hzero h0, hpk]
    · show live s (classOut _ s) = _
      rw [hpos h0, hp hd (of_decide_eq_true hv)]
    · exact exec_decodeAcOut hd (ht.resolve_right (by simpa using hv)) hr hs
    · have hpk := hp hd (ht.resolve_right (by simpa using hv))
      rw [h0] at hpk
      show live s (classOut0 _ s) = _
      rw [hzero h0, hpk]
    · show live s (classOut _ s) = _
      rw [hpos h0, hp hd (ht.resolve_right (by simpa using hv))]

/-! ## Every row -/

theorem exec_decodeDeviceIn : exec (decodeDeviceIn p) s = live s (dispatchDeviceIn p s) := by
  unfold decodeDeviceIn dispatchDeviceIn
  split_ifs <;> rfl

/-- The row a packet decodes to is `Dispatch` of the packet, halted too. -/
theorem exec_decodeSetup (p : SetupPacket) (s : State) :
    exec (decodeSetup s.cfg.val p) s = live s (dispatch p s) := by
  unfold decodeSetup dispatch
  by_cases h1 : p.type = Code.typeStandard ∧ p.rcpt = Code.rcptDevice ∧ p.dirIn = true
  · rw [if_pos h1, if_pos h1, exec_decodeDeviceIn]
  rw [if_neg h1, if_neg h1]
  by_cases h2 : p.type = Code.typeStandard ∧ p.rcpt = Code.rcptDevice
  · have hd : p.dirIn = false := Bool.eq_false_iff.2 fun hd => h1 ⟨h2.1, h2.2, hd⟩
    have h2' : p.type = Code.typeStandard ∧ p.rcpt = Code.rcptDevice ∧ p.dirIn = false := ⟨h2.1, h2.2, hd⟩
    rw [if_pos h2, if_pos h2', dispatchDeviceOut]
    split_ifs <;> rfl
  have h2' : ¬(p.type = Code.typeStandard ∧ p.rcpt = Code.rcptDevice ∧ p.dirIn = false) := fun h => h2 ⟨h.1, h.2.1⟩
  rw [if_neg h2, if_neg h2']
  by_cases h3 : p.type = Code.typeStandard ∧ p.rcpt = Code.rcptInterface ∧ p.dirIn = false
  · rw [if_pos h3, if_pos h3]
    split_ifs <;> rfl
  rw [if_neg h3, if_neg h3]
  by_cases h4 : (p.type = Code.typeStandard ∨ p.type = Code.typeVendor) ∧ p.rcpt = Code.rcptEndpoint ∧ p.dirIn = false
      ∧ p.request = s.cfg.val.reqClear ∧ p.index = s.cfg.val.clearEpIndex
  · rw [if_pos h4, if_pos h4]; rfl
  rw [if_neg h4, if_neg h4]
  by_cases h5 : (p.type = Code.typeClass ∨ p.type = Code.typeVendor) ∧ p.rcpt = Code.rcptInterface
  · rw [if_pos h5, if_pos h5, exec_decodeInterface h5.1 h5.2]
  · rw [if_neg h5, if_neg h5]; rfl

end

/-- Settles O6, line by line of R133. -/
theorem dispatchAgreesWithDecoder : Obligations.DispatchAgreesWithDecoder := by
  intro s p hf
  have hacc : (acceptSetup p s).fatal = none := hf
  refine ⟨exec_decodeSetup p s, ?_⟩
  have h := exec_decodeSetup p (acceptSetup p s)
  rw [acceptSetup_cfg] at h
  rw [h, live_of_running hacc]
  exact live_of_running hf _

end Sys2Proof.Machine
end

section
set_option Elab.async false
/-! PROOFS. A step is the external reset, a period the environment gives, or a run of moves. -/

namespace Sys2Proof.Machine

/-! ## Every row makes moves -/

section
variable {A : State → State → Prop} {s t : State} {r : Res Unit}

/-- A row makes the moves of its procedure; halted it makes none (R456). -/
theorem Does.of_live (h : Does A s r) (e : live s r = .next t) : Relation.ReflTransGen A s t := by
  unfold live at e
  split at e
  · exact h.of_next e
  · cases e; exact .refl

theorem Does.of_selected {sel : Bool} (h : sel = true → Does A s r) (e : selected sel s r = .next t) :
    Relation.ReflTransGen A s t := by
  unfold selected at e
  split at e
  · next hs => exact (h hs).of_live e
  · exact (Does.refused _).of_live e

theorem enableEndpoint_does (e : EpItem) (s : State) : Does (Fine .any) s (enableEndpoint e s) := by
  refine .of_eq_ok (fun _ _ h => .inr (.enable h)) fun t => ?_
  unfold enableEndpoint
  split <;> simp

theorem setterResult_does {r : Bool × State} (h : Relation.ReflTransGen (Act .any) s r.2) :
    Does (Act .any) s (setterResult r) := .after h ((Does.none _).latch _)

/-- What a setter does to the channels or the rate is one move. -/
theorem setVolume_does (ch : Chan) (b : Bytes) (s : State) : Relation.ReflTransGen (Act .any) s (setVolume ch b s).2 := by
  rcases setVolume_cases ch b s with e | ⟨x, -, e⟩ <;> rw [e]
  exact .single (.channels x s (by simp))

theorem setMute_does (ch : Chan) (b : Bytes) (s : State) : Relation.ReflTransGen (Act .any) s (setMute ch b s).2 := by
  rcases setMute_cases ch b s with e | ⟨x, -, e⟩ <;> rw [e]
  exact .single (.channels x s (by simp))

theorem setFreq_does (b : Bytes) (s : State) : Relation.ReflTransGen (Act .any) s (setFreq b s).2 := by
  rcases setFreq_cases b s with e | ⟨x, -, hx, e⟩ <;> rw [e]
  exact .single (.rate x s (by simp) hx)

/-- A function whose assertion fails has no next state; one that answers leaves the state (R14). -/
theorem ofOption_does {α : Type} (e : Refusal) (o : Option α) (s : State) : Does (Act .any) s (Res.ofOption e o s) := by
  cases o with
  | none => trivial
  | some a => exact .none a

theorem onFrame_does {size : Nat} {x m : Bytes} (h : onFrame size x m s = .next t) :
    Relation.ReflTransGen (Fine .any) s t :=
  (Does.ite (fun _ => ((Does.none m).latch _).fine) fun _ => Does.refused _).of_live h

end

/-- Every row but the external reset is a run of moves. -/
theorem exec_fine {i : Instr} {s t : State} (hi : i ≠ .resetPin) (h : exec i s = .next t) :
    Relation.ReflTransGen (Fine .any) s t := by
  cases i with
  | getStatus v x l => exact (replyIn_does _ l s).fine.of_live h
  | getDescriptorDevice i x l => exact (ctrlInStart_does _ _ s).fine.of_live h
  | getDescriptorConfiguration i x l => exact (ctrlInStart_does _ _ s).fine.of_live h
  | getDescriptorString i x l => exact (replyIn_does _ l s).fine.of_live h
  | getDescriptorQualifier i x l => exact (stall_does s).fine.of_live h
  | getDescriptorOther t i x l => exact (stall_does s).fine.of_live h
  | setAddress v x l => exact (setAddress_does v s).fine.of_live h
  | setConfiguration v x l => exact moves_fine ((setConfiguration_does v s).of_live h)
  | setInterface v x l => exact moves_fine ((setInterface_does x v s).of_live h)
  | epClear b v l => exact (epClear_does s).fine.of_live h
  | classIn r v x l => exact (classIn_does _ s).fine.of_live h
  | classInVendor r v x l => exact (classIn_does _ s).fine.of_live h
  | classOut0 r v x => exact (classOut0_does _ s).fine.of_live h
  | classOut0Vendor r v x => exact (classOut0_does _ s).fine.of_live h
  | classOut r v x l => exact (classOut_does _ s).fine.of_live h
  | classOutVendor r v x l => exact (classOut_does _ s).fine.of_live h
  | classOutOversize b r v x l => exact (fatalHalt_does _ s).fine.of_live h
  | unhandled p => exact (stall_does s).fine.of_live h
  | getCurVolume ch l => exact (replyIn_does _ l s).fine.of_live h
  | getRangeVolume ch l => exact (replyIn_does _ l s).fine.of_live h
  | getCurMute ch l => exact (replyIn_does _ l s).fine.of_live h
  | getRangeMute ch l => exact (replyIn_does _ l s).fine.of_live h
  | getCurFreq ch l => exact (replyIn_does _ l s).fine.of_live h
  | getRangeFreq ch l => exact (replyIn_does _ l s).fine.of_live h
  | setCurVolume ch stage =>
    cases stage with
    | setup l => exact (routeOut_does _ s).fine.of_live h
    | payload b => exact (setterResult_does (setVolume_does ch b s)).fine.of_live h
  | setCurMute ch stage =>
    cases stage with
    | setup l => exact (routeOut_does _ s).fine.of_live h
    | payload b => exact (setterResult_does (setMute_does ch b s)).fine.of_live h
  | setCurFreq ch stage =>
    cases stage with
    | setup l => exact (routeOut_does _ s).fine.of_live h
    | payload b => exact (setterResult_does (setFreq_does b s)).fine.of_live h
  | acUnhandledIn r v e l => exact (stall_does s).fine.of_live h
  | acUnhandledOut r v e stage =>
    cases stage with
    | setup l => exact (routeOut_does _ s).fine.of_live h
    | payload b => exact (setterResult_does (r := (false, s)) .refl).fine.of_live h
  | evSetup p => exact moves_fine ((evSetup_does p s).of_live h)
  | evBufferDone n d l => exact (bufferDone_does n d l s (.inr (by simp))).fine.of_live h
  | evBusReset => exact moves_fine ((busReset_does s).of_live h)
  | ep0InDoneData l => exact Does.of_selected (fun _ => (ep0InData_does s).fine) h
  | ep0InDoneStatus l => exact Does.of_selected (fun _ => (ep0InStatus_does s).fine) h
  | ep0OutDoneData l => exact Does.of_selected (fun _ => (ep0OutData_does l s (by simp)).fine) h
  | ep0Done d l => exact (onEp0Done_does d l s (.inr (by simp))).fine.of_live h
  | streamOutDone l => exact (onStreamOutDone_does l s).fine.of_live h
  | feedbackInDone l => exact (fbStep_does s).fine.of_live h
  | bufferReady =>
    have hd : Does (Act .any) s (.ok () { s with bufferReady := true }) :=
      .one (.context rfl rfl id (List.Subset.refl _)) ()
    exact hd.fine.of_live h
  | push e => exact (push_does e s).fine.of_live h
  | iterate => exact moves_fine ((iterate_does s).of_live h)
  | tick => exact (playbackTick_does s rfl).fine.of_live h
  | resetPin => exact absurd rfl hi
  | dispatch p => exact moves_fine ((dispatch_does p s).of_live h)
  | ctrlInStart buf len => exact (ctrlInStart_does buf len s).fine.of_live h
  | sendNextChunk => exact (sendNextChunk_does s).fine.of_live h
  | ack => exact (ack_does s).fine.of_live h
  | raiseStall => exact (stall_does s).fine.of_live h
  | raiseFatal c => exact (fatalHalt_does c s).fine.of_live h
  | routeClass p => exact (routeClass_does p s).fine.of_live h
  | invokeOutHandler q b => exact ((invokeOutHandler_does q b s (.inr (by simp))).latch _).fine.of_live h
  | pop =>
    have hd : Does (Act .any) s (Res.ok (pop s).1 (pop s).2) := .one (pop_act s s.eventsLeft rfl) _
    exact (hd.latch _).fine.of_live h
  | handle e => exact moves_fine ((handle_does e s (.inr (by simp))).of_live h)
  | readAndClearBufferReady =>
    have hd : Does (Act .any) s (Res.ok (readAndClear s).1 (readAndClear s).2) := .one (readAndClear_act s rfl) _
    exact (hd.latch _).fine.of_live h
  | activateConfiguration n =>
    exact Does.of_live ((activateConfiguration_does n s).bind fun _ _ _ => .one (.inl (.plain rfl)) ()) h
  | computeLayout => exact (computeLayout_does s).of_live h
  | enableEndpoint e => exact (enableEndpoint_does e s).of_live h
  | disableEndpoint n d => exact Does.of_live (.one (.inr (.disable n d s)) ()) h
  | setAlternateSetting i a =>
    exact Does.of_live ((setAlternateSetting_does i a s).bind fun _ _ _ => .one (.inl (.plain rfl)) ()) h
  | startTransfer n d b l => exact ((startTransfer_does n d b l s).latch _).fine.of_live h
  | ringWrite data n => exact ((ringWrite_does data n s).latch _).fine.of_live h
  | ringRead n => exact ((ringRead_does n s rfl).latch _).fine.of_live h
  | ringFillRatio => exact ((Does.none _).latch _).fine.of_live h
  | ringResize n => exact (ringResize_does n s).fine.of_live h
  | streamStart f => exact (streamStart_does f s).fine.of_live h
  | streamStop => exact Does.of_live (Does.after (streamStop_does s) (.none ())).fine h
  | tickStopped => exact Does.of_selected (fun _ => Does.none ()) h
  | tickBuffering => exact Does.of_selected (fun e => (bufferingTick_does s rfl (of_decide_eq_true e)).fine) h
  | tickPlaying => exact Does.of_selected (fun e => (playingTick_does s rfl (of_decide_eq_true e)).fine) h
  | tickStalled => exact Does.of_selected (fun e => (stalledTick_does s rfl (of_decide_eq_true e)).fine) h
  | onSamplesReceived b => exact (onSamplesReceived_does b s).fine.of_live h
  | setIfCallbackAsIf a => exact ((streamingCallback_does a s).latch _).fine.of_live h
  | unpack f b => exact ((Does.none _).latch _).fine.of_live h
  | unpack16 b => exact ((Does.none _).latch _).fine.of_live h
  | unpack24 b => exact ((Does.none _).latch _).fine.of_live h
  | unpack32 b => exact ((Does.none _).latch _).fine.of_live h
  | lookup v => exact ((ofOption_does _ _ s).latch _).fine.of_live h
  | gains => exact ((ofOption_does _ _ s).latch _).fine.of_live h
  | scale x gC gM => exact ((Does.none _).latch _).fine.of_live h
  | mix f b => exact ((ofOption_does _ _ s).latch _).fine.of_live h
  | mixFrame16 x gL gR gM => exact onFrame_does h
  | mixFrame24 x gL gR gM => exact onFrame_does h
  | mixFrame32 x gL gR gM => exact onFrame_does h
  | fbStep => exact (fbStep_does s).fine.of_live h

/-! ## A step -/

/-- What a step does with what it has fetched. -/
def Res.run (r : Res Instr) : Outcome :=
  match r with
  | .ok i s => exec i s
  | .ended s => .next s
  | .fault f => .fault f
  | .refused e => .refused e

theorem step_eq (s : State) : step s = (fetch s).run := rfl

/-- The operation of an event, run after R170's writes, is the handling of the event (R425). -/
theorem run_fetchEvent {s : State} (hf : s.fatal = none) (e : UsbEvent) :
    (fetchEvent e s).run = (handle e s).outcome := by
  cases e with
  | setupPacket p =>
    have hd : decodeEvent s.cfg.val (.setupPacket p) = .ok (decodeSetup s.cfg.val p) := decode_bytes _ p
    have h := exec_decodeSetup p (acceptSetup p s)
    rw [acceptSetup_cfg] at h
    rw [fetchEvent, hd]
    exact h.trans (live_of_running (by exact hf) _)
  | bufferDone n d len => exact live_of_running hf _
  | busReset => exact live_of_running hf _

/-- The main loop takes an event where it may (R424). -/
theorem fetchMainLoop_event {s : State} {e : UsbEvent} {rest : List UsbEvent} {k : Nat} (hf : s.fatal = none)
    (hq : s.evq = e :: rest) (hk : s.eventsLeft = k + 1) :
    fetchMainLoop s = fetchEvent e { s with evq := rest, eventsLeft := k } := by
  rw [fetchMainLoop, if_pos hf, hk]
  simp only [pop, hq, List.head?_cons, List.tail_cons]

/-- Else it runs the tick (R424). -/
theorem fetchMainLoop_tick {s : State} (hf : s.fatal = none) (h : s.evq = [] ∨ s.eventsLeft = 0) :
    fetchMainLoop s = fetchTick s := by
  rw [fetchMainLoop, if_pos hf]
  rcases h with h | h
  · cases s.eventsLeft <;> simp only [pop, h, List.head?_nil]
  · rw [h]

theorem fetchMainLoop_halted {s : State} (hf : s.fatal ≠ none) : fetchMainLoop s = .ended s := by
  rw [fetchMainLoop, if_neg hf]

/-- A micro-step of the main loop: one event handled, or the tick (R424). -/
theorem run_mainLoop_cases {s : State} (hf : s.fatal = none) :
    (∃ e rest k, s.evq = e :: rest ∧ s.eventsLeft = k + 1 ∧
      (fetchMainLoop s).run = (handle e { s with evq := rest, eventsLeft := k }).outcome) ∨
    ((s.evq = [] ∨ s.eventsLeft = 0) ∧ (fetchMainLoop s).run = (endIteration s).outcome) := by
  have tick : (s.evq = [] ∨ s.eventsLeft = 0) → (fetchMainLoop s).run = (endIteration s).outcome := fun h => by
    rw [fetchMainLoop_tick hf h]
    exact live_of_running (by exact hf) _
  cases hq : s.evq with
  | nil => exact .inr ⟨.inl rfl, tick (.inl hq)⟩
  | cons e rest =>
    cases hk : s.eventsLeft with
    | zero => exact .inr ⟨.inr rfl, tick (.inr hk)⟩
    | succ k =>
      refine .inl ⟨e, rest, k, rfl, rfl, ?_⟩
      rw [fetchMainLoop_event hf hq hk, run_fetchEvent (by exact hf)]

theorem run_mainLoop_moves {s t : State} (h : (fetchMainLoop s).run = .next t) :
    Relation.ReflTransGen (Move .any) s t := by
  by_cases hf : s.fatal = none
  · rcases run_mainLoop_cases hf with ⟨e, rest, k, hq, -, e'⟩ | ⟨-, e'⟩ <;> rw [e'] at h
    · have hpop : Act .any s { s with evq := rest, eventsLeft := k } := by
        have := pop_act s k rfl
        rwa [pop, hq] at this
      exact (Does.after_one (.inl hpop) (handle_does e _ (.inr (by simp)))).of_next h
    · exact (endIteration_does s rfl).move.of_next h
  · rw [fetchMainLoop_halted hf] at h
    cases h
    exact .refl

/-- Taking a stimulus from the schedule is a move. -/
theorem schedule_act {s : State} {x : Stimulus} {r : List Stimulus} (h : s.schedule = x :: r) :
    Act .any s { s with schedule := r } :=
  .context rfl rfl id (by rw [h]; exact List.subset_cons_self x r)

/-- Everything a step can be: the operation of the schedule, the environment's period, or a run of moves. -/
theorem step_cases {s t : State} (h : step s = .next t) :
    (∃ i r, s.schedule = .op i :: r ∧ exec i { s with schedule := r } = .next t) ∨
    (∃ k r, s.schedule = .driverPeriod k :: r ∧ 1 ≤ k ∧ t = { s with schedule := r, nextPeriod := k }) ∨
    Relation.ReflTransGen (Move .any) s t := by
  rw [step_eq] at h
  cases hs : s.schedule with
  | nil =>
    rw [show fetch s = fetchMainLoop s by rw [fetch, hs]] at h
    exact .inr (.inr (run_mainLoop_moves h))
  | cons x r =>
    cases x with
    | mainLoop =>
      rw [show fetch s = fetchMainLoop { s with schedule := r } by rw [fetch, hs]] at h
      exact .inr (.inr (.head (.inl (schedule_act hs)) (run_mainLoop_moves h)))
    | op i =>
      rw [show fetch s = .ok i { s with schedule := r } by rw [fetch, hs]] at h
      exact .inl ⟨i, r, rfl, h⟩
    | outData n b =>
      rw [show fetch s = (storeOut n b { s with schedule := r }).bind fun _ s => .ended s by rw [fetch, hs]] at h
      have hd : Does (Act .any) s (storeOut n b { s with schedule := r }) :=
        .after_one (schedule_act hs) (storeOut_does n b _)
      cases hr : storeOut n b { s with schedule := r } with
      | ok a u =>
        rw [hr] at h hd
        cases h
        exact .inr (.inr (Relation.ReflTransGen.mono (fun _ _ => .inl) _ _ hd))
      | ended u =>
        rw [hr] at h hd
        cases h
        exact .inr (.inr (Relation.ReflTransGen.mono (fun _ _ => .inl) _ _ hd))
      | fault f => rw [hr] at h; cases h
      | refused f => rw [hr] at h; cases h
    | driverPeriod k =>
      rw [show fetch s = (setNextPeriod k { s with schedule := r }).bind fun _ s => .ended s by rw [fetch, hs]] at h
      by_cases hf : s.fatal = none
      · have hu : ({ s with schedule := r } : State).fatal = none := hf
        rw [setNextPeriod, if_pos hu] at h
        split_ifs at h with hk
        · cases h
        · cases h
          exact .inr (.inl ⟨k, r, rfl, Nat.pos_of_ne_zero hk, rfl⟩)
      · have hu : ({ s with schedule := r } : State).fatal ≠ none := hf
        rw [setNextPeriod, if_neg hu] at h
        cases h
        exact .inr (.inr (.single (.inl (schedule_act hs))))

/-- A step is the external reset, a period, or a run of moves. -/
theorem step_fine {s t : State} (h : step s = .next t) :
    (∃ r, s.schedule = .op .resetPin :: r ∧ t = powerOnReset { s with schedule := r }) ∨
    (∃ k r, 1 ≤ k ∧ t = { s with schedule := r, nextPeriod := k }) ∨
    Relation.ReflTransGen (Fine .any) s t := by
  rcases step_cases h with ⟨i, r, hs, he⟩ | ⟨k, r, -, hk, e⟩ | h
  · by_cases hi : i = .resetPin
    · subst hi
      cases he
      exact .inl ⟨r, hs, rfl⟩
    · exact .inr (.inr (.head (.inl (schedule_act hs)) (exec_fine hi he)))
  · exact .inr (.inl ⟨k, r, hk, e⟩)
  · exact .inr (.inr (moves_fine h))

/-- On the stimuli of the wire the moves on the configuration are whole procedures. -/
theorem wire_step {s t : State} (hw : WireSchedule s) (h : step s = .next t) :
    (∃ r, s.schedule = .op .resetPin :: r ∧ t = powerOnReset { s with schedule := r }) ∨
    (∃ k r, s.schedule = .driverPeriod k :: r ∧ 1 ≤ k ∧ t = { s with schedule := r, nextPeriod := k }) ∨
    Relation.ReflTransGen (Move .any) s t := by
  rcases step_cases h with ⟨i, r, hs, he⟩ | h | h
  · have hi : wireLevel (.op i) = true := hw _ (hs ▸ List.mem_cons_self)
    have moves : ∀ {k : Res Unit}, Does (Move .any) { s with schedule := r } k →
        exec i { s with schedule := r } = live { s with schedule := r } k → Relation.ReflTransGen (Move .any) s t :=
      fun hd e => .head (.inl (schedule_act hs)) (hd.of_live (e ▸ he))
    cases i with
    | push e => exact .inr (.inr (moves (push_does e _).move rfl))
    | bufferReady =>
      have hd : Does (Act .any) { s with schedule := r } (.ok () { s with schedule := r, bufferReady := true }) :=
        .one (.context rfl rfl id (List.Subset.refl _)) ()
      exact .inr (.inr (moves hd.move rfl))
    | iterate => exact .inr (.inr (moves (iterate_does _) rfl))
    | tick => exact .inr (.inr (moves (playbackTick_does _ rfl).move rfl))
    | resetPin =>
      cases he
      exact .inl ⟨r, hs, rfl⟩
    | _ => exact absurd hi (by simp [wireLevel])
  · exact .inr (.inl h)
  · exact .inr (.inr h)

/-! ## A halted machine -/

/-- Halted, every operation but the external reset leaves the state (R456). -/
theorem exec_halted {i : Instr} {s : State} (hi : i ≠ .resetPin) (hf : s.fatal ≠ none) : exec i s = .next s := by
  cases i with
  | resetPin => exact absurd rfl hi
  | _ => exact live_of_halted hf _

/-- Settles O16, stimulus by stimulus. -/
theorem haltedMachineStays : Obligations.HaltedMachineStays := by
  intro s hf hreset
  rw [step_eq, fetch]
  cases hs : s.schedule with
  | nil =>
    have he : { s with schedule := [] } = s := by rw [← hs]
    rw [List.tail_nil, he]
    show (fetchMainLoop s).run = _
    rw [fetchMainLoop_halted hf]; rfl
  | cons x r =>
    have hu : ({ s with schedule := r } : State).fatal ≠ none := hf
    cases x with
    | mainLoop =>
      show (fetchMainLoop { s with schedule := r }).run = _
      rw [fetchMainLoop_halted hu]; rfl
    | op i =>
      refine exec_halted ?_ hu
      rintro rfl
      exact hreset (by rw [hs]; rfl)
    | outData n b =>
      show ((storeOut n b { s with schedule := r }).bind _).run = _
      rw [storeOut, if_neg hu]; rfl
    | driverPeriod k =>
      show ((setNextPeriod k { s with schedule := r }).bind _).run = _
      rw [setNextPeriod, if_neg hu]; rfl

end Sys2Proof.Machine
end

section
set_option Elab.async false
/-! PROOFS. The ring buffer as a queue (spec/44_ring_buffer.md R310 to R326): the write index is the read index moved on
by the count, a write appends to the abstract content, a read takes from its front. -/

namespace Sys2Proof.Machine

/-! ## Indices modulo the size -/

/-- Indices less than a size apart are different places of the ring. -/
theorem ring_index_inj {a i j n : Nat} (hi : i < n) (hj : j < n) (h : (a + i) % n = (a + j) % n) : i = j := by
  have hij : i ≡ j [MOD n] := Nat.ModEq.add_left_cancel' a h
  rwa [Nat.ModEq, Nat.mod_eq_of_lt hi, Nat.mod_eq_of_lt hj] at hij

/-- The write index of a ring with `c` bytes from `h` on, and the count both give. -/
theorem count_of_indices {h c n : Nat} (hh : h < n) (hc : c < n) : ((h + c) % n + n - h) % n = c := by
  by_cases hlt : h + c < n
  · rw [Nat.mod_eq_of_lt hlt, show h + c + n - h = c + n by omega, Nat.add_mod_right, Nat.mod_eq_of_lt hc]
  · have hm : (h + c) % n = h + c - n := by
      rw [Nat.mod_eq_sub_mod (by omega), Nat.mod_eq_of_lt (by omega)]
    rw [hm, show h + c - n + n - h = c by omega, Nat.mod_eq_of_lt hc]

theorem indices_of_count {h t n : Nat} (hh : h < n) (ht : t < n) : (h + (t + n - h) % n) % n = t := by
  by_cases hle : h ≤ t
  · rw [show t + n - h = t - h + n by omega, Nat.add_mod_right, Nat.mod_eq_of_lt (show t - h < n by omega),
      show h + (t - h) = t by omega, Nat.mod_eq_of_lt ht]
  · rw [Nat.mod_eq_of_lt (show t + n - h < n by omega), show h + (t + n - h) = t + n by omega, Nat.add_mod_right,
      Nat.mod_eq_of_lt ht]

/-! ## The derived quantities (R311) -/

theorem ringCount_full {rb : RingBuffer} (h : rb.fullFlag = true) : ringCount rb = rb.size := if_pos h

theorem ringCount_not_full {rb : RingBuffer} (h : rb.fullFlag = false) :
    ringCount rb = (rb.tail + rb.size - rb.head) % rb.size := if_neg (by simp [h])

/-- The full flag says that the count is the size (R311, R312). -/
theorem full_iff {rb : RingBuffer} (h : RingOk rb) : rb.fullFlag = true ↔ ringCount rb = rb.size := by
  refine ⟨ringCount_full, fun hc => ?_⟩
  by_contra hf
  rw [ringCount_not_full (Bool.eq_false_iff.2 hf)] at hc
  exact absurd hc (Nat.mod_lt _ h.size_pos).ne

/-- The write index is the read index moved on by the count. -/
theorem tail_eq {rb : RingBuffer} (h : RingOk rb) : rb.tail = (rb.head + ringCount rb) % rb.size := by
  cases hf : rb.fullFlag with
  | true => rw [ringCount_full hf, Nat.add_mod_right, Nat.mod_eq_of_lt h.head_lt, h.full hf]
  | false => rw [ringCount_not_full hf, indices_of_count h.head_lt h.tail_lt]

/-- A ring whose write index and full flag are those of `c` bytes is well-formed and counts `c` bytes. -/
theorem ringOk_of_count {rb : RingBuffer} {c : Nat} (hs : 1 ≤ rb.size) (hle : rb.size ≤ rb.capacity)
    (hh : rb.head < rb.size) (hc : c ≤ rb.size) (ht : rb.tail = (rb.head + c) % rb.size)
    (hf : rb.fullFlag = true ↔ c = rb.size) : RingOk rb ∧ ringCount rb = c := by
  have hfull : rb.fullFlag = true → rb.head = rb.tail := fun h => by
    rw [ht, hf.1 h, Nat.add_mod_right, Nat.mod_eq_of_lt hh]
  refine ⟨⟨hs, hle, hh, ht ▸ Nat.mod_lt _ hs, hfull⟩, ?_⟩
  cases hb : rb.fullFlag with
  | true => rw [ringCount_full hb, hf.1 hb]
  | false =>
    have hlt : c < rb.size := lt_of_le_of_ne hc fun e => by rw [hf.2 e] at hb; cases hb
    rw [ringCount_not_full hb, ht, count_of_indices hh hlt]

/-! ## The bytes of a write and of a read -/

/-- What a ring write stores, and that it stores nothing else (R314). -/
theorem storeRing_reads {size i : Nat} {b : Bytes} {s t : State} {u : Unit} (h : storeRing size i b s = .ok u t)
    (hb : b.length ≤ size) :
    (∀ j < b.length, t.rb.storage.read ((i + j) % size) = b[j]?) ∧
    (∀ a, (∀ j < b.length, a ≠ (i + j) % size) → t.rb.storage.read a = s.rb.storage.read a) := by
  induction b generalizing i s with
  | nil => cases h; exact ⟨fun j hj => absurd hj (Nat.not_lt_zero j), fun _ _ => rfl⟩
  | cons x r ih =>
    rw [storeRing] at h
    obtain ⟨_, v, hv, hk⟩ := bind_eq_ok h
    obtain ⟨rfl, -⟩ := memWrite_eq_ok hv
    rw [List.length_cons] at hb
    obtain ⟨hnew, hold⟩ := ih hk (by omega)
    have hfirst : ∀ a, (s.setMem .ring ((s.mem .ring).writeN (i % size) [x])).rb.storage.read a
        = if a = i % size then some x else s.rb.storage.read a := fun a => read_write _ _ _ _
    have hshift : ∀ j, i + (j + 1) = i + 1 + j := fun j => by omega
    refine ⟨fun j hj => ?_, fun a ha => ?_⟩
    · cases j with
      | zero =>
        rw [Nat.add_zero, hold, hfirst, if_pos rfl]
        · rfl
        · intro j' hj' e
          have e : (i + 0) % size = (i + (j' + 1)) % size := by rw [hshift]; exact e
          exact absurd (ring_index_inj (by omega) (by omega) e) (by omega)
      | succ j =>
        rw [hshift]
        exact hnew j (Nat.lt_of_succ_lt_succ hj)
    · rw [hold, hfirst, if_neg]
      · exact ha 0 (by simp)
      · intro j hj
        rw [← hshift]
        exact ha (j + 1) (Nat.succ_lt_succ hj)

/-- A ring write stores inside RING (20 R83). -/
theorem storeRing_addr {size i : Nat} {b : Bytes} {s t : State} {u : Unit} (h : storeRing size i b s = .ok u t) :
    ∀ c ∈ t.rb.storage, c.1 < s.rb.capacity ∨ c ∈ s.rb.storage := by
  induction b generalizing i s with
  | nil => cases h; exact fun c hc => .inr hc
  | cons x r ih =>
    rw [storeRing] at h
    obtain ⟨_, v, hv, hk⟩ := bind_eq_ok h
    obtain ⟨rfl, hb⟩ := memWrite_eq_ok hv
    have hlt : i % size + 1 ≤ s.rb.capacity := hb.resolve_left (by simp)
    intro c hc
    rcases ih hk c hc with hc | hc
    · exact .inl hc
    · rcases mem_write_addr (m := s.rb.storage) hc with rfl | hc
      · exact .inl hlt
      · exact .inr hc

/-- A ring write inside the capacity succeeds. -/
theorem storeRing_ok {size : Nat} (i : Nat) (b : Bytes) {s : State} (hs : 1 ≤ size) (hc : size ≤ s.rb.capacity) :
    ∃ t, storeRing size i b s = .ok () t := by
  induction b generalizing i s with
  | nil => exact ⟨s, rfl⟩
  | cons x r ih =>
    have hlt := Nat.mod_lt i hs
    have hw : memWrite .ring (i % size) [x] s = .ok () (s.setMem .ring ((s.mem .ring).writeN (i % size) [x])) :=
      memWrite_ok (show i % size + 1 ≤ s.rb.capacity by omega)
    rw [storeRing, hw, bind_ok]
    exact ih (i + 1) hc

/-- A ring read of written bytes succeeds. -/
theorem loadRing_ok {size : Nat} (i : Nat) {k : Nat} {s : State} (hs : 1 ≤ size) (hc : size ≤ s.rb.capacity)
    (hr : ∀ j < k, s.rb.storage.read ((i + j) % size) ≠ none) : ∃ b, loadRing size i k s = .ok b s := by
  induction k generalizing i with
  | zero => exact ⟨[], rfl⟩
  | succ k ih =>
    have hlt := Nat.mod_lt i hs
    obtain ⟨x, hx⟩ := Option.ne_none_iff_exists'.1 (hr 0 (Nat.succ_pos k))
    rw [Nat.add_zero] at hx
    have hm : memRead .ring (i % size) 1 s = .ok [x] s := by
      rw [memRead, if_pos (.inr (show i % size + 1 ≤ s.rb.capacity by omega))]
      simp only [Memory.readN, show (s.mem .ring).read (i % size) = some x from hx, Option.map_some]
    obtain ⟨b, hb⟩ := ih (i + 1) fun j hj => by
      rw [show i + 1 + j = i + (j + 1) by omega]
      exact hr (j + 1) (Nat.succ_lt_succ hj)
    exact ⟨_, by rw [loadRing, hm, bind_ok, hb, bind_ok]⟩

/-! ## The abstract content (R324) -/

/-- A list of places that read as the bytes `b`. -/
theorem map_range_eq_some {k : Nat} {g : Nat → Option Byte} {b : Bytes} (hb : b.length = k)
    (hg : ∀ j < k, g j = b[j]?) : (List.range k).map g = b.map some := by
  refine List.ext_getElem (by simp [hb]) fun j h1 h2 => ?_
  have hj : j < b.length := by simpa using h2
  simp [hg j (hb ▸ hj), List.getElem?_eq_getElem hj]

/-- The state of the ring after a write of `k` bytes `b` (R314). -/
structure RingWrote (b : Bytes) (rb rb' : RingBuffer) : Prop where
  ok      : RingOk rb'
  count   : ringCount rb' = ringCount rb + b.length
  content : ringContent rb' = ringContent rb ++ b.map some

/-- A write that moves the write index, sets the flag and stores its bytes appends them (R324). -/
theorem ringWrote {rb : RingBuffer} {b : Bytes} {m : Memory} (h : RingOk rb) (hk : b.length ≤ ringSpace rb)
    (hnew : ∀ j < b.length, m.read ((rb.tail + j) % rb.size) = b[j]?)
    (hold : ∀ a, (∀ j < b.length, a ≠ (rb.tail + j) % rb.size) → m.read a = rb.storage.read a) :
    RingWrote b rb { rb with
      storage := m, tail := (rb.tail + b.length) % rb.size
      fullFlag := fullAfterWrite rb b.length ((rb.tail + b.length) % rb.size) } := by
  have hle := ringCount_le h
  have hroom : ringCount rb + b.length ≤ rb.size := by unfold ringSpace at hk; omega
  have hplace : ∀ j, (rb.tail + j) % rb.size = (rb.head + (ringCount rb + j)) % rb.size := fun j => by
    rw [tail_eq h, Nat.mod_add_mod, Nat.add_assoc]
  have hfull : fullAfterWrite rb b.length ((rb.tail + b.length) % rb.size) = true ↔
      ringCount rb + b.length = rb.size := by
    rw [fullAfterWrite, Bool.or_eq_true, Bool.and_eq_true, decide_eq_true_eq, decide_eq_true_eq, full_iff h, hplace]
    constructor
    · rintro (hc | ⟨hpos, he⟩)
      · omega
      · by_contra hne
        have := ring_index_inj (n := rb.size) (i := ringCount rb + b.length) (j := 0) (a := rb.head) (by omega)
          h.size_pos (by rw [he, Nat.add_zero, Nat.mod_eq_of_lt h.head_lt])
        omega
    · intro he
      by_cases hpos : 0 < b.length
      · exact .inr ⟨hpos, by rw [he, Nat.add_mod_right, Nat.mod_eq_of_lt h.head_lt]⟩
      · exact .inl (by omega)
  obtain ⟨hok, hcount⟩ := ringOk_of_count (rb := { rb with
      storage := m, tail := (rb.tail + b.length) % rb.size
      fullFlag := fullAfterWrite rb b.length ((rb.tail + b.length) % rb.size) })
    h.size_pos h.size_le h.head_lt hroom (hplace _) hfull
  refine ⟨hok, hcount, ?_⟩
  rw [ringContent, hcount, List.range_add, List.map_append, List.map_map]
  congr 1
  · refine List.map_congr_left fun j hj => hold _ fun i hi e => ?_
    have hj' : j < ringCount rb := List.mem_range.1 hj
    have e : (rb.head + j) % rb.size = (rb.tail + i) % rb.size := e
    rw [hplace] at e
    exact absurd (ring_index_inj (by omega) (by omega) e) (by omega)
  · refine map_range_eq_some rfl fun j hj => ?_
    rw [Function.comp_apply, ← hplace]
    exact hnew j hj

/-- What a ring write leaves, as a queue (R324). -/
theorem ringWrite_wrote {data : Bytes} {n k : Nat} {s t : State} (h : RingOk s.rb)
    (hw : ringWrite data n s = .ok k t) : RingWrote (data.take k) s.rb t.rb := by
  unfold ringWrite at hw
  split at hw
  · cases hw
  · next hl =>
    obtain ⟨_, v, hv, hk⟩ := bind_eq_ok hw
    obtain ⟨m, rfl, -⟩ := storeRing_eq_ok hv
    cases hk
    have hlen : (data.take (min n (ringSpace s.rb))).length = min n (ringSpace s.rb) := by
      rw [List.length_take]; omega
    obtain ⟨hnew, hold⟩ := storeRing_reads hv (by rw [hlen, ringSpace]; omega)
    have hr := ringWrote h (by rw [hlen]; omega) hnew hold
    rw [hlen] at hr
    exact hr

/-- What a ring read leaves, as a queue (R324). -/
theorem ringRead_read {n : Nat} {b : Bytes} {s t : State} (h : RingOk s.rb) (hr : ringRead n s = .ok b t) :
    RingOk t.rb ∧ ringCount t.rb + b.length = ringCount s.rb ∧
      ringContent s.rb = b.map some ++ ringContent t.rb := by
  obtain ⟨hb, hbytes, rfl⟩ := ringRead_eq_ok hr
  have hle := ringCount_le h
  have hmoved : ∀ j, ((s.rb.head + b.length) % s.rb.size + j) % s.rb.size
      = (s.rb.head + (b.length + j)) % s.rb.size := fun j => by rw [Nat.mod_add_mod, Nat.add_assoc]
  have hfull : fullAfterRead s.rb b.length = true ↔ ringCount s.rb - b.length = s.rb.size := by
    have hpos := h.size_pos
    rw [fullAfterRead, Bool.and_eq_true, decide_eq_true_eq, full_iff h]
    omega
  obtain ⟨hok, hcount⟩ := ringOk_of_count (rb := { s.rb with
      head := (s.rb.head + b.length) % s.rb.size, fullFlag := fullAfterRead s.rb b.length })
    h.size_pos h.size_le (Nat.mod_lt _ h.size_pos) (show ringCount s.rb - b.length ≤ s.rb.size by omega)
    (by rw [hmoved, Nat.add_sub_cancel' (by omega)]; exact tail_eq h) hfull
  refine ⟨hok, by rw [hcount]; omega, ?_⟩
  rw [ringContent, ringContent, hcount, show ringCount s.rb = b.length + (ringCount s.rb - b.length) by omega,
    List.range_add, List.map_append, List.map_map, Nat.add_sub_cancel_left]
  congr 1
  · exact map_range_eq_some rfl hbytes
  · exact List.map_congr_left fun j _ => by rw [Function.comp_apply, ← hmoved]

/-- An emptied ring is well-formed and holds nothing (R322). -/
theorem ringOk_resized {m : Memory} {n c : Nat} (hn : 1 ≤ n) (hc : n ≤ c) :
    RingOk ⟨m, n, c, 0, 0, false⟩ ∧ ringContent ⟨m, n, c, 0, 0, false⟩ = [] := by
  obtain ⟨hok, hcount⟩ := ringOk_of_count (rb := ⟨m, n, c, 0, 0, false⟩) (c := 0) hn hc hn (Nat.zero_le n)
    (Nat.zero_mod n).symm (by simp; omega)
  exact ⟨hok, by rw [ringContent, hcount]; rfl⟩

theorem ringResize_resized {n : Nat} {s t : State} {u : Unit} (h : RingOk s.rb) (hr : ringResize n s = .ok u t) :
    RingOk t.rb ∧ ringContent t.rb = if n = s.rb.size then ringContent s.rb else [] := by
  obtain ⟨hn, ⟨hs, rfl⟩ | ⟨hs, rfl⟩⟩ := ringResize_eq_ok hr
  · exact ⟨h, (if_pos hs).symm⟩
  · rw [if_neg hs]
    exact ringOk_resized hn (le_max_right _ _)

/-! ## Invariants -/

theorem ringWrite_filled {data : Bytes} {n k : Nat} {s t : State} (h : RingOk s.rb ∧ RingFilled s.rb)
    (hw : ringWrite data n s = .ok k t) : RingOk t.rb ∧ RingFilled t.rb := by
  obtain ⟨hok, -, hcontent⟩ := ringWrite_wrote h.1 hw
  refine ⟨hok, fun x hx => ?_⟩
  rw [hcontent, List.mem_append, List.mem_map] at hx
  rcases hx with hx | ⟨y, -, rfl⟩
  · exact h.2 x hx
  · exact Option.some_ne_none y

theorem ringRead_filled {n : Nat} {b : Bytes} {s t : State} (h : RingOk s.rb ∧ RingFilled s.rb)
    (hr : ringRead n s = .ok b t) : RingOk t.rb ∧ RingFilled t.rb := by
  obtain ⟨hok, -, hcontent⟩ := ringRead_read h.1 hr
  exact ⟨hok, fun x hx => h.2 x (hcontent ▸ List.mem_append_right _ hx)⟩

theorem ringResize_filled {n : Nat} {s t : State} {u : Unit} (h : RingOk s.rb ∧ RingFilled s.rb)
    (hr : ringResize n s = .ok u t) : RingOk t.rb ∧ RingFilled t.rb := by
  obtain ⟨hok, hcontent⟩ := ringResize_resized h.1 hr
  refine ⟨hok, fun x hx => ?_⟩
  rw [hcontent] at hx
  split at hx
  · exact h.2 x hx
  · cases hx

/-! ## Completion -/

/-- A ring write of bytes that are there completes (R314). -/
theorem ringWrite_total {data : Bytes} {n : Nat} {s : State} (h : RingOk s.rb) (hn : n ≤ data.length) :
    ∃ k t, ringWrite data n s = .ok k t := by
  obtain ⟨u, hu⟩ := storeRing_ok s.rb.tail (data.take (min n (ringSpace s.rb))) h.size_pos h.size_le
  rw [ringWrite, if_neg (Nat.not_lt.2 hn)]
  simp only [hu, bind_ok]
  exact ⟨_, _, rfl⟩

/-- A ring read of a filled ring completes (R318). -/
theorem ringRead_total (n : Nat) {s : State} (h : RingOk s.rb) (hf : RingFilled s.rb) :
    ∃ b t, ringRead n s = .ok b t := by
  obtain ⟨b, hb⟩ := loadRing_ok s.rb.head (k := min n (ringCount s.rb)) (s := s) h.size_pos h.size_le fun j hj =>
    hf _ (List.mem_map.2 ⟨j, List.mem_range.2 (by omega), rfl⟩)
  rw [ringRead]
  simp only [hb, bind_ok]
  exact ⟨_, _, rfl⟩

end Sys2Proof.Machine
end

section
set_option Elab.async false
/-! PROOFS. The invariants that every step keeps: each is shown for the reset, for a period the environment gives, and
move by move. -/

namespace Sys2Proof.Machine

theorem run_keeps {A : State → State → Prop} {P : State → Prop} (h : ∀ {s t}, A s t → P s → P t) {s t : State}
    (hr : Relation.ReflTransGen A s t) (hs : P s) : P t := by
  induction hr with
  | refl => exact hs
  | tail _ hm ih => exact h hm ih

/-- A relation that composes holds between the ends of a run of moves. -/
theorem run_related {A R : State → State → Prop} (hrefl : ∀ s, R s s) (htrans : ∀ {s t u}, R s t → R t u → R s u)
    (h : ∀ {s t}, A s t → R s t) {s t : State} (hr : Relation.ReflTransGen A s t) : R s t :=
  run_keeps (P := R s) (fun hm hs => htrans hs (h hm)) hr (hrefl s)

/-- A step keeps what the reset, a period and every move keep. -/
theorem step_keeps {P : State → Prop} (hreset : ∀ s r, P s → P (powerOnReset { s with schedule := r }))
    (hperiod : ∀ s r k, 1 ≤ k → P s → P { s with schedule := r, nextPeriod := k })
    (hact : ∀ {s t}, Act .any s t → P s → P t) (hconf : ∀ {s t}, ConfigAct s t → P s → P t) {s t : State}
    (h : step s = .next t) (hs : P s) : P t := by
  rcases step_fine h with ⟨r, -, rfl⟩ | ⟨k, r, hk, rfl⟩ | hr
  · exact hreset s r hs
  · exact hperiod s r k hk hs
  · exact run_keeps (fun hm hp => hm.elim (hact · hp) (hconf · hp)) hr hs

/-! ## What the moves that are procedures write -/

theorem ringWrite_rb {data : Bytes} {n k : Nat} {s t : State} (h : ringWrite data n s = .ok k t) :
    t = { s with rb := t.rb } := by
  obtain ⟨-, -, m, -, rfl⟩ := ringWrite_eq_ok h
  rfl

theorem ringRead_rb {n : Nat} {b : Bytes} {s t : State} (h : ringRead n s = .ok b t) : t = { s with rb := t.rb } := by
  obtain ⟨-, -, rfl⟩ := ringRead_eq_ok h
  rfl

theorem ringResize_rb {n : Nat} {u : Unit} {s t : State} (h : ringResize n s = .ok u t) : t = { s with rb := t.rb } := by
  obtain ⟨-, ⟨-, rfl⟩ | ⟨-, rfl⟩⟩ := ringResize_eq_ok h <;> rfl

theorem setEp_table (s : State) (n : Fin 16) (d : Dir) (r : EpRecord) :
    s.setEp n d r = { s with epOut := (s.setEp n d r).epOut, epIn := (s.setEp n d r).epIn } := by
  cases d <;> rfl

theorem disableEndpoint_table (n : Fin 16) (d : Dir) (s : State) : disableEndpoint n d s = { s with
    epOut := (disableEndpoint n d s).epOut, epIn := (disableEndpoint n d s).epIn
    trace := (disableEndpoint n d s).trace } := by
  unfold disableEndpoint
  dsimp only
  split
  · rw [setEp_table]; rfl
  · rw [setEp_table]

theorem enableEndpoint_table {e : EpItem} {s t : State} {u : Unit} (h : enableEndpoint e s = .ok u t) :
    t = { s with epOut := t.epOut, epIn := t.epIn, trace := t.trace } := by
  obtain ⟨off, -, rfl⟩ := enableEndpoint_eq_ok h
  rw [setEp_table]
  rfl

/-! ## The ring buffer -/

/-- What a well-formed record gives the audio side at reset (R506). -/
theorem wfConfig_initial (c : WfConfig) :
    1 ≤ c.val.initRingSize ∧ c.val.initRate.toNat ∈ Const.supportedRates ∧ 1 ≤ c.val.periodFrames := by
  have h := c.ok
  simp only [Config.wf, Bool.and_eq_true, decide_eq_true_eq, List.contains_iff_mem] at h
  tauto

theorem resetOf_ring (c : WfConfig) : RingOk (State.resetOf c).rb ∧ RingFilled (State.resetOf c).rb := by
  obtain ⟨hok, hcontent⟩ := ringOk_resized (m := []) (wfConfig_initial c).1 (Nat.le_refl _)
  exact ⟨hok, fun x hx => by cases (hcontent ▸ hx : x ∈ [])⟩

theorem act_keeps_ring {sc : Scope} {s t : State} (h : Act sc s t) (hs : RingOk s.rb ∧ RingFilled s.rb) :
    RingOk t.rb ∧ RingFilled t.rb := by
  cases h with
  | plain h => rw [h]; exact hs
  | endpoint n d a p => rw [setEp_table]; exact hs
  | copy sp a b _ hsp hb => rcases hsp with rfl | rfl <;> exact hs
  | ringWrite h => exact ringWrite_filled hs h
  | ringResize h => exact ringResize_filled hs h
  | ringRead _ h => exact ringRead_filled hs h
  | context _ h => rw [h]; exact hs
  | _ => exact hs

theorem configAct_rb {s t : State} (h : ConfigAct s t) : t.rb = s.rb := by
  cases h with
  | enable h => rw [enableEndpoint_table h]
  | disable n d => rw [disableEndpoint_table]
  | _ => rfl

/-- Settles O12: the moves on the ring are a write, a read and a resize. -/
theorem stepKeepsRing : Obligations.StepKeepsRing := fun _ _ hs h =>
  step_keeps (P := fun s => RingOk s.rb ∧ RingFilled s.rb) (fun s _ _ => resetOf_ring s.cfg) (fun _ _ _ _ hs => hs)
    act_keeps_ring (fun h hs => configAct_rb h ▸ hs) h hs

/-! ## The rate and the fill ratios -/

/-- The rate and the ratios as one statement about the fields, the same in states that agree on them. -/
def RateAndFractions (s : State) : Prop :=
  s.sampleRate.toNat ∈ Const.supportedRates ∧ (0 ≤ s.steadyFill ∧ s.steadyFill ≤ 1) ∧ 0 ≤ s.filtered ∧ s.filtered ≤ 1

theorem rateAndFractions_iff {s : State} : RateAndFractions s ↔ RateSupported s ∧ FractionsOk s :=
  ⟨fun ⟨hr, ⟨h0, h1⟩, h2, h3⟩ => ⟨hr, h0, h1, h2, h3⟩, fun ⟨hr, h⟩ =>
    ⟨hr, ⟨h.steady_nonneg, h.steady_le⟩, h.filtered_nonneg, h.filtered_le⟩⟩

/-- The filter's next value is between its last one and the measured fill ratio, or 1/2 (47 R402). -/
theorem nextFiltered_bounds {s : State} (h : RateAndFractions s) : 0 ≤ nextFiltered s ∧ nextFiltered s ≤ 1 := by
  obtain ⟨-, ⟨hs0, hs1⟩, hf0, hf1⟩ := h
  unfold nextFiltered
  split <;> constructor <;> linarith

theorem act_keeps_rate {sc : Scope} {s t : State} (h : Act sc s t) (hr : RingOk s.rb) (hs : RateAndFractions s) :
    RateAndFractions t := by
  cases h with
  | plain h => rw [h]; exact hs
  | endpoint n d a p => rw [setEp_table]; exact hs
  | copy sp a b _ hsp hb => rcases hsp with rfl | rfl <;> exact hs
  | filter => exact ⟨hs.1, hs.2.1, nextFiltered_bounds hs⟩
  | measure q _ h => exact ⟨hs.1, h hr, hs.2.2⟩
  | ringWrite h => rw [ringWrite_rb h]; exact hs
  | ringResize h => rw [ringResize_rb h]; exact hs
  | ringRead _ h => rw [ringRead_rb h]; exact hs
  | rate r _ _ hr => exact ⟨hr, hs.2⟩
  | context _ h => rw [h]; exact hs
  | _ => exact hs

theorem configAct_keeps_rate {s t : State} (h : ConfigAct s t) (hs : RateAndFractions s) : RateAndFractions t := by
  cases h with
  | enable h => rw [enableEndpoint_table h]; exact hs
  | disable n d => rw [disableEndpoint_table]; exact hs
  | _ => exact hs

theorem resetOf_rate (c : WfConfig) : RateAndFractions (State.resetOf c) :=
  ⟨(wfConfig_initial c).2.1, ⟨le_rfl, zero_le_one⟩, by norm_num [State.resetOf], by norm_num [State.resetOf]⟩

/-- A move keeps the ring's invariants without the bytes it counts, too. -/
theorem act_keeps_ringOk {sc : Scope} {s t : State} (h : Act sc s t) (hs : RingOk s.rb) : RingOk t.rb := by
  cases h with
  | plain h => rw [h]; exact hs
  | endpoint n d a p => rw [setEp_table]; exact hs
  | copy sp a b _ hsp hb => rcases hsp with rfl | rfl <;> exact hs
  | ringWrite h => exact (ringWrite_wrote hs h).ok
  | ringResize h => exact (ringResize_resized hs h).1
  | ringRead _ h => exact (ringRead_read hs h).1
  | context _ h => rw [h]; exact hs
  | _ => exact hs

/-- Settles O13; a measured fill ratio is one because of the ring's invariants. -/
theorem stepKeepsRateAndFractions : Obligations.StepKeepsRateAndFractions := fun _ _ hs h =>
  rateAndFractions_iff.1 (step_keeps (P := fun s => RingOk s.rb ∧ RateAndFractions s)
    (fun s _ _ => ⟨(resetOf_ring s.cfg).1, resetOf_rate s.cfg⟩) (fun _ _ _ _ hs => hs)
    (fun h hs => ⟨act_keeps_ringOk h hs.1, act_keeps_rate h hs.1 hs.2⟩)
    (fun h hs => ⟨configAct_rb h ▸ hs.1, configAct_keeps_rate h hs.2⟩) h
    ⟨hs.1, rateAndFractions_iff.2 hs.2⟩).2

/-! ## The address spaces -/

/-- The canonical form and the bounds as one statement about the fields. -/
def MemoriesOk (s : State) : Prop :=
  (s.epbuf.wf ∧ ∀ c ∈ s.epbuf, c.1 < s.cfg.val.sharedCapacity) ∧ (s.ep0in.wf ∧ ∀ c ∈ s.ep0in, c.1 < 64) ∧
  (s.ep0out.wf ∧ ∀ c ∈ s.ep0out, c.1 < 64) ∧ (s.rb.storage.wf ∧ ∀ c ∈ s.rb.storage, c.1 < s.rb.capacity) ∧ s.hwbuf.wf

theorem memoriesOk_iff {s : State} : MemoriesOk s ↔ MemoriesCanonical s ∧ MemoriesInBounds s := by
  constructor
  · rintro ⟨⟨h1, b1⟩, ⟨h2, b2⟩, ⟨h3, b3⟩, ⟨h4, b4⟩, h5⟩
    refine ⟨fun sp => ?_, b1, b2, b3, b4⟩
    cases sp
    exacts [h1, h2, h3, h4, h5]
  · rintro ⟨hc, b1, b2, b3, b4⟩
    exact ⟨⟨hc .epbuf, b1⟩, ⟨hc .ep0in, b2⟩, ⟨hc .ep0out, b3⟩, ⟨hc .ring, b4⟩, hc .hwbuf⟩

/-- What is stored inside a space stays inside it, in canonical form. -/
theorem writeN_ok {m : Memory} {a size : Nat} {b : Bytes} (hm : m.wf ∧ ∀ c ∈ m, c.1 < size)
    (hb : b.length = 0 ∨ a + b.length ≤ size) : (m.writeN a b).wf ∧ ∀ c ∈ m.writeN a b, c.1 < size := by
  refine ⟨writeN_wf hm.1 a b, fun c hc => ?_⟩
  rcases writeN_addr hc with ⟨h1, h2⟩ | hc
  · omega
  · exact hm.2 c hc

theorem empty_wf : Memory.wf [] := ⟨.nil, fun c hc => by cases hc⟩

/-- A ring write keeps RING in canonical form and inside its capacity. -/
theorem ringWrite_storage {data : Bytes} {n k : Nat} {s t : State} (h : ringWrite data n s = .ok k t)
    (hs : s.rb.storage.wf ∧ ∀ c ∈ s.rb.storage, c.1 < s.rb.capacity) :
    t.rb.storage.wf ∧ ∀ c ∈ t.rb.storage, c.1 < t.rb.capacity := by
  unfold ringWrite at h
  split at h
  · cases h
  · obtain ⟨_, v, hv, hk⟩ := bind_eq_ok h
    have haddr := storeRing_addr hv
    obtain ⟨m, rfl, hm⟩ := storeRing_eq_ok hv
    cases hk
    exact ⟨hm hs.1, fun c hc => (haddr c hc).elim id (hs.2 c)⟩

theorem ringResize_storage {n : Nat} {s t : State} {u : Unit} (h : ringResize n s = .ok u t)
    (hs : s.rb.storage.wf ∧ ∀ c ∈ s.rb.storage, c.1 < s.rb.capacity) :
    t.rb.storage.wf ∧ ∀ c ∈ t.rb.storage, c.1 < t.rb.capacity := by
  obtain ⟨-, ⟨-, rfl⟩ | ⟨-, rfl⟩⟩ := ringResize_eq_ok h
  · exact hs
  · dsimp only
    split
    · exact ⟨empty_wf, fun c hc => by cases hc⟩
    · exact ⟨hs.1, fun c hc => (hs.2 c hc).trans_le (le_max_left _ _)⟩

theorem act_keeps_memories {sc : Scope} {s t : State} (h : Act sc s t) (hs : MemoriesOk s) : MemoriesOk t := by
  obtain ⟨hep, hin, hout, hring, hhw⟩ := id hs
  cases h with
  | plain h => rw [h]; exact hs
  | endpoint n d a p => rw [setEp_table]; exact hs
  | copy sp a b _ hsp hb =>
    rcases hsp with rfl | rfl
    · exact ⟨writeN_ok hep hb, hin, hout, hring, hhw⟩
    · exact ⟨hep, writeN_ok hin hb, hout, hring, hhw⟩
  | ringWrite h =>
    have hr := ringWrite_storage h hring
    rw [ringWrite_rb h]
    exact ⟨hep, hin, hout, hr, hhw⟩
  | ringResize h =>
    have hr := ringResize_storage h hring
    rw [ringResize_rb h]
    exact ⟨hep, hin, hout, hr, hhw⟩
  | ringRead _ h =>
    obtain ⟨-, -, rfl⟩ := ringRead_eq_ok h
    exact hs
  | store b _ _ hb => exact ⟨hep, hin, writeN_ok hout hb, hring, hhw⟩
  | period b => exact ⟨hep, hin, hout, hring, writeN_wf empty_wf 0 b⟩
  | context _ h => rw [h]; exact hs
  | _ => exact hs

theorem configAct_keeps_memories {s t : State} (h : ConfigAct s t) (hs : MemoriesOk s) : MemoriesOk t := by
  cases h with
  | enable h => rw [enableEndpoint_table h]; exact hs
  | disable n d => rw [disableEndpoint_table]; exact hs
  | _ => exact hs

theorem resetOf_memories (c : WfConfig) : MemoriesOk (State.resetOf c) := by
  have none : Memory.wf [] ∧ ∀ size : Nat, ∀ c ∈ ([] : Memory), c.1 < size := ⟨empty_wf, fun _ c hc => by cases hc⟩
  exact ⟨⟨none.1, none.2 _⟩, ⟨none.1, none.2 _⟩, ⟨none.1, none.2 _⟩, ⟨none.1, none.2 _⟩, none.1⟩

/-- Settles O11: every store of a move is inside its space. -/
theorem stepKeepsMemories : Obligations.StepKeepsMemories := fun _ _ hs h =>
  memoriesOk_iff.1 (step_keeps (P := MemoriesOk) (fun s _ _ => resetOf_memories s.cfg) (fun _ _ _ _ hs => hs)
    act_keeps_memories configAct_keeps_memories h (memoriesOk_iff.2 hs))

/-! ## The output trace, and the driver's period -/

/-- A move appends to the trace, and changes the driver's period only with a DrvConfigure (10 R60, R63). -/
def TraceAppended (s t : State) : Prop :=
  t.nextPeriod = s.nextPeriod ∧ ∃ l, t.trace = s.trace ++ l ∧
    (t.periodFrames = s.periodFrames ∨ t.periodFrames = s.nextPeriod ∧ ∃ b r, .drvConfigure b r ∈ l)

theorem TraceAppended.same {s t : State} (hn : t.nextPeriod = s.nextPeriod) (hp : t.periodFrames = s.periodFrames)
    {l : List Cmd} (ht : t.trace = s.trace ++ l) : TraceAppended s t := ⟨hn, l, ht, .inl hp⟩

theorem TraceAppended.refl (s : State) : TraceAppended s s := .same rfl rfl (List.append_nil _).symm

theorem TraceAppended.trans {s t u : State} (h : TraceAppended s t) (k : TraceAppended t u) : TraceAppended s u := by
  obtain ⟨hn, l, hl, hp⟩ := h
  obtain ⟨kn, m, hm, kp⟩ := k
  refine ⟨kn.trans hn, l ++ m, by rw [hm, hl, List.append_assoc], ?_⟩
  rcases kp with kp | ⟨kp, b, r, hc⟩
  · rcases hp with hp | ⟨hp, b, r, hc⟩
    · exact .inl (kp.trans hp)
    · exact .inr ⟨kp.trans hp, b, r, List.mem_append_left _ hc⟩
  · exact .inr ⟨kp.trans hn, b, r, List.mem_append_right _ hc⟩

theorem act_appends {sc : Scope} {s t : State} (h : Act sc s t) : TraceAppended s t := by
  cases h with
  | plain h => rw [h]; exact .refl s
  | emit c => exact .same rfl rfl rfl
  | endpoint n d a p => rw [setEp_table]; exact .refl s
  | copy sp a b _ hsp hb => rcases hsp with rfl | rfl <;> exact .refl s
  | ringWrite h => rw [ringWrite_rb h]; exact .refl s
  | ringResize h => rw [ringResize_rb h]; exact .refl s
  | ringRead _ h => rw [ringRead_rb h]; exact .refl s
  | configure f => exact ⟨rfl, _, rfl, .inr ⟨rfl, _, _, List.mem_singleton_self _⟩⟩
  | context _ h => rw [h]; exact .refl s
  | _ => exact .refl s

theorem configAct_appends {s t : State} (h : ConfigAct s t) : TraceAppended s t := by
  cases h with
  | enable h =>
    obtain ⟨off, -, rfl⟩ := enableEndpoint_eq_ok h
    exact .same (by simp) (by simp) (by rw [emit_trace, setEp_trace])
  | disable n d =>
    unfold disableEndpoint
    dsimp only
    split
    · exact .same (by simp) (by simp) (by rw [setEp_trace, emit_trace])
    · exact .same (by simp) (by simp) (by rw [setEp_trace]; exact (List.append_nil _).symm)
  | _ => exact .refl s

theorem fine_appends {sc : Scope} {s t : State} (h : Relation.ReflTransGen (Fine sc) s t) : TraceAppended s t :=
  run_related .refl .trans (fun h => h.elim act_appends configAct_appends) h

/-- A step other than the external reset appends to the trace, unless the environment gives a period. -/
theorem step_appends {s t : State} (h : step s = .next t) (hr : s.schedule.head? ≠ some (.op .resetPin)) :
    (∃ k r, 1 ≤ k ∧ t = { s with schedule := r, nextPeriod := k }) ∨ TraceAppended s t := by
  rcases step_fine h with ⟨r, hs, -⟩ | hk | hm
  · rw [hs] at hr
    exact absurd rfl hr
  · exact .inl hk
  · exact .inr (fine_appends hm)

/-- Settles O17: the trace is written by `emit` alone. -/
theorem traceOnlyGrows : Obligations.TraceOnlyGrows := by
  intro s t hr h
  rcases step_appends h hr with ⟨k, r, -, rfl⟩ | ⟨-, l, ht, -⟩
  · exact List.prefix_rfl
  · exact ⟨l, ht.symm⟩

end Sys2Proof.Machine
end

section
set_option Elab.async false
/-! PROOFS. More invariants that every step keeps: the alignment of buffers (spec/20_memory.md R90) and the data of the
control engine (spec/10_state.md R20 to R34); and the ring's operations as rows. -/

namespace Sys2Proof.Machine

/-! ## Alignment -/

/-- Buffers and layout on 64-byte boundaries, as one statement about the fields. -/
def Aligned (s : State) : Prop := (∀ n d, 64 ∣ (s.ep n d).bufferAddress) ∧ ∀ x ∈ s.bufLayout, 64 ∣ x.2

theorem aligned_iff {s : State} : Aligned s ↔ BuffersAligned s :=
  ⟨fun h => ⟨h.1, h.2⟩, fun h => ⟨h.buffers, h.layout⟩⟩

theorem mem_mapSet {m : List (Nat × Nat)} {k v : Nat} {x : Nat × Nat} (h : x ∈ mapSet m k v) : x = (k, v) ∨ x ∈ m := by
  induction m with
  | nil => exact .inl (List.mem_singleton.1 h)
  | cons y r ih =>
    rw [mapSet] at h
    split_ifs at h
    · exact List.mem_cons.1 h
    · exact (List.mem_cons.1 h).imp id (List.mem_cons_of_mem _)
    · rcases List.mem_cons.1 h with rfl | h
      · exact .inr List.mem_cons_self
      · exact (ih h).imp id (List.mem_cons_of_mem _)

theorem dvd_roundup64 (x : Nat) : 64 ∣ Bits.roundup64 x := ⟨_, Nat.mul_comm _ _⟩

theorem le_roundup64 (x : Nat) : x ≤ Bits.roundup64 x := by unfold Bits.roundup64; omega

/-- Offsets assigned from an aligned one are aligned. -/
theorem assignOffsets_aligned (l : List (Nat × Nat)) {off : Nat} {lay : List (Nat × Nat)} (ho : 64 ∣ off)
    (hl : ∀ x ∈ lay, 64 ∣ x.2) : ∀ x ∈ (assignOffsets l off lay).1, 64 ∣ x.2 := by
  induction l generalizing off lay with
  | nil => exact hl
  | cons y r ih =>
    refine ih (Nat.dvd_add ho (dvd_roundup64 _)) fun x hx => ?_
    rcases mem_mapSet hx with rfl | hx
    · exact ho
    · exact hl x hx

theorem layoutOf_aligned (c : Config) {lay : List (Nat × Nat)} (hl : ∀ x ∈ lay, 64 ∣ x.2) :
    ∀ x ∈ (layoutOf c lay).1, 64 ∣ x.2 := assignOffsets_aligned _ (Nat.dvd_zero 64) hl

/-- What an endpoint is looked up at stands in the layout. -/
theorem mem_of_lookup {m : List (Nat × Nat)} {a v : Nat} (h : m.lookup a = some v) : (a, v) ∈ m := by
  induction m with
  | nil => cases h
  | cons x r ih =>
    rw [lookup_cons_ite] at h
    split_ifs at h with hx
    · cases h; rw [hx]; exact List.mem_cons_self
    · exact List.mem_cons_of_mem _ (ih h)

/-- Moves on what is armed leave the table of endpoints as it was configured. -/
structure SameEndpoints (s t : State) : Prop where
  type    : ∀ n d, (t.ep n d).type = (s.ep n d).type
  size    : ∀ n d, (t.ep n d).maxPacketSize = (s.ep n d).maxPacketSize
  address : ∀ n d, (t.ep n d).bufferAddress = (s.ep n d).bufferAddress
  enabled : ∀ n d, (t.ep n d).enabled = (s.ep n d).enabled
  cfg     : t.cfg = s.cfg
  layout  : t.bufLayout = s.bufLayout
  active  : t.activeConfig = s.activeConfig
  alts    : t.altSetting = s.altSetting

theorem SameEndpoints.of_table {s t : State} (ho : t.epOut = s.epOut) (hi : t.epIn = s.epIn) (hc : t.cfg = s.cfg)
    (hl : t.bufLayout = s.bufLayout) (ha : t.activeConfig = s.activeConfig) (hs : t.altSetting = s.altSetting) :
    SameEndpoints s t :=
  ⟨fun n d => by rw [ep_congr ho hi], fun n d => by rw [ep_congr ho hi], fun n d => by rw [ep_congr ho hi],
    fun n d => by rw [ep_congr ho hi], hc, hl, ha, hs⟩

theorem SameEndpoints.refl (s : State) : SameEndpoints s s := .of_table rfl rfl rfl rfl rfl rfl

theorem SameEndpoints.trans {s t u : State} (h : SameEndpoints s t) (k : SameEndpoints t u) : SameEndpoints s u :=
  ⟨fun n d => (k.type n d).trans (h.type n d), fun n d => (k.size n d).trans (h.size n d),
    fun n d => (k.address n d).trans (h.address n d), fun n d => (k.enabled n d).trans (h.enabled n d),
    k.cfg.trans h.cfg, k.layout.trans h.layout, k.active.trans h.active, k.alts.trans h.alts⟩

theorem act_sameEndpoints {sc : Scope} {s t : State} (h : Act sc s t) : SameEndpoints s t := by
  cases h with
  | plain h => rw [h]; exact .of_table rfl rfl rfl rfl rfl rfl
  | endpoint n d a p =>
    constructor
    case cfg | layout | active | alts => simp
    all_goals
      intro m e
      rw [ep_setEp]
      split
      · next h => rw [h.1, h.2]
      · rfl
  | copy sp a b _ hsp hb => rcases hsp with rfl | rfl <;> exact .of_table rfl rfl rfl rfl rfl rfl
  | ringWrite h => rw [ringWrite_rb h]; exact .of_table rfl rfl rfl rfl rfl rfl
  | ringResize h => rw [ringResize_rb h]; exact .of_table rfl rfl rfl rfl rfl rfl
  | ringRead _ h => rw [ringRead_rb h]; exact .of_table rfl rfl rfl rfl rfl rfl
  | context _ h => rw [h]; exact .of_table rfl rfl rfl rfl rfl rfl
  | _ => exact .of_table rfl rfl rfl rfl rfl rfl

theorem SameEndpoints.aligned {s t : State} (h : SameEndpoints s t) (hs : Aligned s) : Aligned t :=
  ⟨fun n d => h.address n d ▸ hs.1 n d, h.layout ▸ hs.2⟩

theorem configAct_keeps_aligned {s t : State} (h : ConfigAct s t) (hs : Aligned s) : Aligned t := by
  cases h with
  | @enable e _ _ h =>
    obtain ⟨off, hoff, rfl⟩ := enableEndpoint_eq_ok h
    refine ⟨fun n d => ?_, by simpa using hs.2⟩
    rw [ep_emit, ep_setEp]
    split
    · exact hs.2 _ (mem_of_lookup hoff)
    · exact hs.1 n d
  | disable n d =>
    refine ⟨fun m e => ?_, by simpa using hs.2⟩
    rw [ep_disableEndpoint]
    split
    · exact hs.1 n d
    · exact hs.1 m e
  | layout => exact ⟨hs.1, layoutOf_aligned _ hs.2⟩
  | inactive => exact ⟨hs.1, fun x hx => by cases hx⟩
  | active n => exact hs
  | alt i a => exact hs

/-- An endpoint record after reset (R50). -/
theorem ep_resetOf (c : WfConfig) (n : Fin 16) (d : Dir) :
    (State.resetOf c).ep n d = if n = 0 then EpRecord.reset0 else EpRecord.resetN := by
  have table : epTableReset[n] = if n = 0 then EpRecord.reset0 else EpRecord.resetN := by
    rw [epTableReset, Fin.getElem_fin, Vector.getElem_set]
    by_cases hn : n = 0
    · rw [if_pos (by rw [hn]; rfl), if_pos hn]
    · rw [if_neg (fun h => hn (Fin.ext h.symm)), if_neg hn, Vector.getElem_replicate]
  cases d <;> exact table

theorem resetOf_aligned (c : WfConfig) : Aligned (State.resetOf c) := by
  refine ⟨fun n d => ?_, fun x hx => by cases hx⟩
  rw [ep_resetOf]
  split <;> exact Nat.dvd_zero 64

/-- Settles O14: a buffer address comes from the layout, whose offsets go in steps of 64. -/
theorem stepKeepsAlignment : Obligations.StepKeepsAlignment := fun _ _ hs h =>
  aligned_iff.1 (step_keeps (P := Aligned) (fun s _ _ => resetOf_aligned s.cfg) (fun _ _ _ _ hs => hs)
    (fun h => (act_sameEndpoints h).aligned) configAct_keeps_aligned h (aligned_iff.2 hs))

/-! ## The data of the control engine -/

/-- What O15 says of two states one after the other. -/
structure ControlKept (s t : State) : Prop where
  cfg     : t.cfg = s.cfg
  queue   : QueueBounded s → QueueBounded t
  alts    : AltSettingsSized s → AltSettingsSized t
  format  : FormatKnown s → FormatKnown t
  reply   : ReplyLongEnough s → ReplyLongEnough t
  capture : CaptureHeld s → CaptureHeld t
  periods : PeriodsPositive s → PeriodsPositive t

theorem ControlKept.refl (s : State) : ControlKept s s := ⟨rfl, id, id, id, id, id, id⟩

theorem ControlKept.trans {s t u : State} (h : ControlKept s t) (k : ControlKept t u) : ControlKept s u :=
  ⟨k.cfg.trans h.cfg, k.queue ∘ h.queue, k.alts ∘ h.alts, k.format ∘ h.format, k.reply ∘ h.reply,
    k.capture ∘ h.capture, k.periods ∘ h.periods⟩

theorem act_controlKept {sc : Scope} {s t : State} (h : Act sc s t) : ControlKept s t := by
  cases h with
  | plain h => rw [h]; exact ⟨rfl, id, id, id, id, id, id⟩
  | endpoint n d a p => rw [setEp_table]; exact ⟨rfl, id, id, id, id, id, id⟩
  | copy sp a b _ hsp hb => rcases hsp with rfl | rfl <;> exact ⟨rfl, id, id, id, id, id, id⟩
  | phase p ph _ h => exact ⟨rfl, id, id, id, id, h, id⟩
  | reply c _ h => exact ⟨rfl, id, id, id, h, id, id⟩
  | ringWrite h => rw [ringWrite_rb h]; exact ⟨rfl, id, id, id, id, id, id⟩
  | ringResize h => rw [ringResize_rb h]; exact ⟨rfl, id, id, id, id, id, id⟩
  | ringRead _ h => rw [ringRead_rb h]; exact ⟨rfl, id, id, id, id, id, id⟩
  | format f => exact ⟨rfl, id, id, fun _ _ => Option.some_ne_none f, id, id, id⟩
  | playback p _ h => exact ⟨rfl, id, id, h, id, id, id⟩
  | configure f => exact ⟨rfl, id, id, id, id, id, fun h => ⟨h.2, h.2⟩⟩
  | context _ h hq => exact ⟨by rw [h], hq, by rw [h]; exact id, by rw [h]; exact id, by rw [h]; exact id,
      by rw [h]; exact id, by rw [h]; exact id⟩
  | _ => exact ⟨rfl, id, id, id, id, id, id⟩

theorem configAct_controlKept {s t : State} (h : ConfigAct s t) : ControlKept s t := by
  cases h with
  | enable h => rw [enableEndpoint_table h]; exact ⟨rfl, id, id, id, id, id, id⟩
  | disable n d => rw [disableEndpoint_table]; exact ⟨rfl, id, id, id, id, id, id⟩
  | inactive => exact ⟨rfl, id, fun h => (List.length_map _).trans h, id, id, id, id⟩
  | alt i a => exact ⟨rfl, id, fun h => List.length_set.trans h, id, id, id, id⟩
  | _ => exact ⟨rfl, id, id, id, id, id, id⟩

theorem fine_controlKept {sc : Scope} {s t : State} (h : Relation.ReflTransGen (Fine sc) s t) : ControlKept s t :=
  run_related .refl .trans (fun h => h.elim act_controlKept configAct_controlKept) h

theorem resetOf_captureHeld (c : WfConfig) : CaptureHeld (State.resetOf c) := fun h => by cases h

theorem resetOf_periods (c : WfConfig) : PeriodsPositive (State.resetOf c) :=
  ⟨(wfConfig_initial c).2.2, (wfConfig_initial c).2.2⟩

theorem resetOf_alts (c : WfConfig) : AltSettingsSized (State.resetOf c) := List.length_replicate

/-- The reset gives all of it anew. -/
theorem powerOnReset_controlKept (s : State) (r : List Stimulus) :
    ControlKept s (powerOnReset { s with schedule := r }) :=
  ⟨rfl, fun _ => Nat.zero_le _, fun _ => resetOf_alts s.cfg, fun _ h => absurd rfl h, fun _ => Nat.le_refl 0,
    fun _ => resetOf_captureHeld s.cfg, fun _ => resetOf_periods s.cfg⟩

theorem step_controlKept {s t : State} (h : step s = .next t) : ControlKept s t := by
  rcases step_fine h with ⟨r, -, rfl⟩ | ⟨k, r, hk, rfl⟩ | hm
  · exact powerOnReset_controlKept s r
  · exact ⟨rfl, id, id, id, id, id, fun h => ⟨h.1, hk⟩⟩
  · exact fine_controlKept hm

/-- Settles O15. -/
theorem stepKeepsControlData : Obligations.StepKeepsControlData := by
  refine ⟨fun s t h => ?_, fun c => ⟨resetOf_captureHeld c, resetOf_periods c⟩⟩
  obtain ⟨hc, hq, ha, hf, hr, hp, hd⟩ := step_controlKept h
  refine ⟨hc, hq, ha, hf, hr, hp, hd, fun hreset => ?_⟩
  rcases step_appends h hreset with ⟨k, r, -, rfl⟩ | ⟨-, l, ht, hper⟩
  · exact .inl rfl
  · rw [ht, List.drop_left]
    exact hper

/-! ## The rows of the ring buffer -/

/-- The bytes a ring write stores, and what it leaves (R314). -/
theorem ringWrite_stores {data : Bytes} {n k : Nat} {s t : State} (h : ringWrite data n s = .ok k t) :
    (∀ j < k, t.rb.storage.read ((s.rb.tail + j) % s.rb.size) = data[j]?) ∧
    (∀ a, (∀ j < k, a ≠ (s.rb.tail + j) % s.rb.size) → t.rb.storage.read a = s.rb.storage.read a) := by
  unfold ringWrite at h
  split at h
  · cases h
  · next hn =>
    obtain ⟨_, v, hv, he⟩ := bind_eq_ok h
    cases he
    have hlen : (data.take (min n (ringSpace s.rb))).length = min n (ringSpace s.rb) := by
      rw [List.length_take]; omega
    have hroom : ringSpace s.rb ≤ s.rb.size := Nat.sub_le _ _
    obtain ⟨hnew, hold⟩ := storeRing_reads hv (by rw [hlen]; omega)
    rw [hlen] at hnew hold
    exact ⟨fun j hj => (hnew j hj).trans (List.getElem?_take_of_lt hj), hold⟩

/-- The full flag after a read, as R318 says it. -/
theorem fullAfterRead_eq (rb : RingBuffer) (k : Nat) :
    fullAfterRead rb k = if 0 < k then false else rb.fullFlag := by
  unfold fullAfterRead
  by_cases hk : 0 < k
  · simp [hk, hk.ne']
  · simp [Nat.eq_zero_of_not_pos hk]

/-- Settles O48. -/
theorem ringOperations : Obligations.RingOperations := by
  intro s hf hok
  refine ⟨fun data n hn => ?_, fun n hfill => ?_, ?_, fun n => ?_⟩
  · obtain ⟨k, t, ht⟩ := ringWrite_total hok hn
    have hrun : exec (.ringWrite data n) s = .next { t with ret := .count k } := by
      show live s ((ringWrite data n s).latch .count) = _
      rw [ht, latch_ok, live_of_running hf, outcome_ok]
    obtain ⟨hnew, hold⟩ := ringWrite_stores ht
    obtain ⟨-, rfl, m, -, rfl⟩ := ringWrite_eq_ok ht
    exact ⟨_, hrun, rfl, hnew, hold⟩
  · obtain ⟨b, t, ht⟩ := ringRead_total n hok hfill
    obtain ⟨hb, hbytes, rfl⟩ := ringRead_eq_ok ht
    refine ⟨b, hb, hb ▸ hbytes, ?_⟩
    show live s ((ringRead n s).latch _) = _
    rw [ht, latch_ok, live_of_running hf, outcome_ok, ← fullAfterRead_eq, hb]
  · obtain ⟨h0, h1⟩ := fillRatio_bounds hok
    have hpos := hok.size_pos
    have hs : (s.rb.size : Rat) ≠ 0 := by positivity
    exact ⟨fillRatio s.rb, live_of_running hf _, div_mul_cancel₀ _ hs, h0, h1⟩
  · show live s (ringResize n s) = _
    rw [live_of_running hf, ringResize]
    split_ifs with h0 hs hc
    · rfl
    · rfl
    · simp only [outcome_ok, hc, if_true, max_eq_right hc.le]
    · simp only [outcome_ok, hc, if_false, max_eq_left (Nat.not_lt.1 hc)]

/-- A row that latches what its procedure returned: the procedure ended with that result. -/
theorem latch_eq_next {α : Type} {s t : State} {r : Res α} {f : α → RetVal} (hf : s.fatal = none)
    (hend : ∀ u, r ≠ .ended u) (h : live s (r.latch f) = .next t) :
    ∃ a u, r = .ok a u ∧ t = { u with ret := f a } := by
  rw [live_of_running hf] at h
  cases r with
  | ok a u => cases h; exact ⟨a, u, rfl, rfl⟩
  | ended u => exact absurd rfl (hend u)
  | fault e => cases h
  | refused e => cases h

theorem ringWrite_ne_ended (data : Bytes) (n : Nat) (s u : State) : ringWrite data n s ≠ .ended u := by
  unfold ringWrite
  split
  · simp
  · exact bind_ne_ended (storeRing_ne_ended _ _ _ _) (fun _ _ _ => by simp) u

theorem ringRead_ne_ended (n : Nat) (s u : State) : ringRead n s ≠ .ended u :=
  bind_ne_ended (loadRing_ne_ended _ _ _ _) (fun _ _ _ => by simp) u

/-- Settles O49. -/
theorem ringIsFifo : Obligations.RingIsFifo := by
  intro s t hf hok
  refine ⟨fun data n h => ?_, fun n h => ?_, fun n h => ?_⟩
  · obtain ⟨k, u, hu, rfl⟩ := latch_eq_next hf (ringWrite_ne_ended data n s) h
    obtain ⟨-, hk, -⟩ := ringWrite_eq_ok hu
    exact ⟨k, rfl, hk ▸ min_le_right _ _, (ringWrite_wrote hok hu).content⟩
  · obtain ⟨b, u, hu, rfl⟩ := latch_eq_next hf (ringRead_ne_ended n s) h
    obtain ⟨hb, -⟩ := ringRead_eq_ok hu
    exact ⟨b, rfl, hb ▸ min_le_right _ _, (ringRead_read hok hu).2.2⟩
  · have h : (ringResize n s).outcome = .next t := (live_of_running hf _).symm.trans h
    rcases outcome_eq_next h with ⟨u, hu⟩ | hu
    · exact (ringResize_resized hok hu).2
    · unfold ringResize at hu
      split_ifs at hu

end Sys2Proof.Machine
end

section
set_option Elab.async false
/-! PROOFS. The layout of a configuration (spec/43_endpoint_manager.md R286): the addresses ascend, each has a region of
its size rounded up to 64, and the regions follow one another. -/

namespace Sys2Proof.Machine

/-- The endpoint items of the descriptor list. -/
def itemsOf (c : Config) : List EpItem := (itemsFrom (0, 0) c.configItems).map (·.2)

/-! ## The sizes by address -/

/-- A map kept in ascending key order. -/
def Ascending (m : List (Nat × Nat)) : Prop := m.Pairwise fun x y => x.1 < y.1

theorem mapSet_ascending {m : List (Nat × Nat)} (h : Ascending m) (k v : Nat) : Ascending (mapSet m k v) := by
  induction m with
  | nil => exact List.pairwise_singleton _ _
  | cons x r ih =>
    obtain ⟨hx, hr⟩ := List.pairwise_cons.1 h
    rw [mapSet]
    split_ifs with hlt heq
    · refine List.pairwise_cons.2 ⟨fun y hy => ?_, h⟩
      rcases List.mem_cons.1 hy with rfl | hy
      · exact hlt
      · exact hlt.trans (hx y hy)
    · exact List.pairwise_cons.2 ⟨fun y hy => heq ▸ hx y hy, hr⟩
    · refine List.pairwise_cons.2 ⟨fun y hy => ?_, ih hr⟩
      rcases mem_mapSet hy with rfl | hy
      · show x.1 < k
        omega
      · exact hx y hy

theorem maxSizes_ascending (l : List EpItem) {m : List (Nat × Nat)} (h : Ascending m) : Ascending (maxSizes l m) := by
  induction l generalizing m with
  | nil => exact h
  | cons e r ih => exact ih (mapSet_ascending h _ _)

/-- Sizes only grow as items are met. -/
theorem maxSizes_mono (l : List EpItem) {m : List (Nat × Nat)} {a v : Nat} (h : m.lookup a = some v) :
    ∃ w, (maxSizes l m).lookup a = some w ∧ v ≤ w := by
  induction l generalizing m v with
  | nil => exact ⟨v, h, le_rfl⟩
  | cons e r ih =>
    by_cases ha : a = addrOf e
    · subst ha
      have hset : (mapSet m (addrOf e) (max ((m.lookup (addrOf e)).getD 0) e.maxPacketSize)).lookup (addrOf e)
          = some (max v e.maxPacketSize) := by rw [lookup_mapSet, if_pos rfl, h]; rfl
      obtain ⟨w, hw, hle⟩ := ih hset
      exact ⟨w, hw, (le_max_left _ _).trans hle⟩
    · exact ih (by rw [lookup_mapSet, if_neg ha, h])

/-- An item's address has at least its size. -/
theorem maxSizes_le (l : List EpItem) (m : List (Nat × Nat)) {e : EpItem} (he : e ∈ l) :
    ∃ w, (maxSizes l m).lookup (addrOf e) = some w ∧ e.maxPacketSize ≤ w := by
  induction l generalizing m with
  | nil => cases he
  | cons x r ih =>
    rcases List.mem_cons.1 he with rfl | he
    · have hset : (mapSet m (addrOf e) (max ((m.lookup (addrOf e)).getD 0) e.maxPacketSize)).lookup (addrOf e)
          = some (max ((m.lookup (addrOf e)).getD 0) e.maxPacketSize) := by rw [lookup_mapSet, if_pos rfl]
      obtain ⟨w, hw, hle⟩ := maxSizes_mono r hset
      exact ⟨w, hw, (le_max_right _ _).trans hle⟩
    · exact ih _ he

/-! ## The offsets -/

/-- What the offsets of a list of sizes are: each region begins at or after `off`, ends by the total, and the regions
ascend with the addresses. -/
structure Packed (l : List (Nat × Nat)) (off : Nat) (r : List (Nat × Nat) × Nat) : Prop where
  total  : off ≤ r.2
  region : ∀ x ∈ l, ∃ o, r.1.lookup x.1 = some o ∧ off ≤ o ∧ o + Bits.roundup64 x.2 ≤ r.2
  ascend : ∀ x ∈ l, ∀ y ∈ l, x.1 < y.1 → ∀ o p, r.1.lookup x.1 = some o → r.1.lookup y.1 = some p →
    o + Bits.roundup64 x.2 ≤ p

theorem lookup_assignOffsets_other (l : List (Nat × Nat)) {off : Nat} {lay : List (Nat × Nat)} {a : Nat}
    (h : ∀ x ∈ l, x.1 ≠ a) : (assignOffsets l off lay).1.lookup a = lay.lookup a := by
  induction l generalizing off lay with
  | nil => rfl
  | cons x r ih =>
    refine (ih fun y hy => h y (List.mem_cons_of_mem _ hy)).trans ?_
    rw [lookup_mapSet, if_neg (h x List.mem_cons_self).symm]

theorem assignOffsets_packed {l : List (Nat × Nat)} (h : Ascending l) (off : Nat) (lay : List (Nat × Nat)) :
    Packed l off (assignOffsets l off lay) := by
  induction l generalizing off lay with
  | nil => exact ⟨Nat.le_refl off, (fun x hx => by cases hx), fun x hx => by cases hx⟩
  | cons x r ih =>
    obtain ⟨hx, hr⟩ := List.pairwise_cons.1 h
    obtain ⟨htotal, hregion, hascend⟩ := ih hr (off + Bits.roundup64 x.2) (mapSet lay x.1 off)
    have hfirst : (assignOffsets (x :: r) off lay).1.lookup x.1 = some off := by
      refine (lookup_assignOffsets_other r fun y hy => (hx y hy).ne').trans ?_
      rw [lookup_mapSet, if_pos rfl]
    refine ⟨(Nat.le_add_right _ _).trans htotal, fun y hy => ?_, fun y hy z hz hlt o p ho hp => ?_⟩
    · rcases List.mem_cons.1 hy with rfl | hy
      · exact ⟨off, hfirst, le_rfl, htotal⟩
      · obtain ⟨o, ho, hle, hend⟩ := hregion y hy
        exact ⟨o, ho, (Nat.le_add_right _ _).trans hle, hend⟩
    · rcases List.mem_cons.1 hy with rfl | hy
      · rcases List.mem_cons.1 hz with rfl | hz
        · exact absurd hlt (lt_irrefl _)
        · obtain ⟨q, hq, hle, -⟩ := hregion z hz
          obtain rfl : off = o := Option.some.inj (hfirst.symm.trans ho)
          obtain rfl : q = p := Option.some.inj (hq.symm.trans hp)
          exact hle
      · rcases List.mem_cons.1 hz with rfl | hz
        · exact absurd (hx y (by assumption)) (by omega)
        · exact hascend y hy z hz hlt o p ho hp

theorem roundup64_mono {x y : Nat} (h : x ≤ y) : Bits.roundup64 x ≤ Bits.roundup64 y := by
  unfold Bits.roundup64; omega

/-- Every endpoint address of the descriptor list has a region of its own in the layout (R286). -/
theorem layout_region {c : Config} {e : EpItem} (he : e ∈ itemsOf c) :
    ∃ off, (layoutOf c []).1.lookup (addrOf e) = some off ∧ 64 ∣ off ∧
      off + Bits.roundup64 e.maxPacketSize ≤ (layoutOf c []).2 := by
  obtain ⟨w, hw, hle⟩ := maxSizes_le (itemsOf c) [] he
  obtain ⟨off, ho, -, hend⟩ := (assignOffsets_packed (maxSizes_ascending (itemsOf c) .nil) 0 []).region _ (mem_of_lookup hw)
  exact ⟨off, ho, layoutOf_aligned c (fun x hx => by cases hx) _ (mem_of_lookup ho),
    (Nat.add_le_add_left (roundup64_mono hle) _).trans hend⟩

/-- The regions ascend with the addresses (R286). -/
theorem layout_ascends {c : Config} {e e' : EpItem} (he : e ∈ itemsOf c) (he' : e' ∈ itemsOf c)
    (hlt : addrOf e < addrOf e') {off off' : Nat} (ho : (layoutOf c []).1.lookup (addrOf e) = some off)
    (ho' : (layoutOf c []).1.lookup (addrOf e') = some off') : off + Bits.roundup64 e.maxPacketSize ≤ off' := by
  obtain ⟨w, hw, hle⟩ := maxSizes_le (itemsOf c) [] he
  obtain ⟨w', hw', -⟩ := maxSizes_le (itemsOf c) [] he'
  exact (Nat.add_le_add_left (roundup64_mono hle) _).trans
    ((assignOffsets_packed (maxSizes_ascending (itemsOf c) .nil) 0 []).ascend _ (mem_of_lookup hw) _ (mem_of_lookup hw') hlt
      _ _ ho ho')

/-- Settles O20. -/
theorem layoutIsPacked : Obligations.LayoutIsPacked := by
  intro s t hf hlay h hft e he
  have h : (computeLayout s).outcome = .next t := (live_of_running hf _).symm.trans h
  rcases computeLayout_cases s with ⟨hfit, e'⟩ | ⟨hfit, e'⟩ <;> rw [e'] at h <;> cases h
  · rw [hlay] at hfit
    have at_eq : ∀ a, layoutAt { s with bufLayout := (layoutOf s.cfg.val s.bufLayout).1 } a
        = (layoutOf s.cfg.val []).1.lookup a := fun a => by rw [layoutAt, hlay]
    simp only [at_eq]
    obtain ⟨off, ho, hal, hend⟩ := layout_region he
    refine ⟨off, ho, hal, by omega, fun e' he' hlt => ?_⟩
    obtain ⟨off', ho', -⟩ := layout_region he'
    exact ⟨off', ho', layout_ascends he he' hlt ho ho'⟩
  · cases hft

end Sys2Proof.Machine
end

section
set_option Elab.async false
/-! PROOFS. On the stimuli of the wire: endpoint 0 works, an active configuration has its layout, and every enabled
endpoint has its buffer where the layout puts it (spec/43_endpoint_manager.md R280 (b), R284, R286). -/

namespace Sys2Proof.Machine

/-! ## Results -/

/-- Sequencing keeps what each part keeps. -/
theorem All.bind {α β : Type} {P : State → Prop} {r : Res α} {k : α → State → Res β} (h : r.All P)
    (hk : ∀ a u, r = .ok a u → P u → (k a u).All P) : (r.bind k).All P := by
  cases r with
  | ok a u => exact hk a u rfl h
  | ended u => exact h
  | fault _ => trivial
  | refused _ => trivial

theorem All.of_next {α : Type} {P : State → Prop} {r : Res α} {t : State} (h : r.All P) (e : r.outcome = .next t) :
    P t := by
  rcases outcome_eq_next e with ⟨a, rfl⟩ | rfl <;> exact h

/-- A run of moves each of which keeps `P`. -/
theorem Does.all {α : Type} {A : State → State → Prop} {P : State → Prop} {s : State} {r : Res α} (h : Does A s r)
    (hA : ∀ {s t}, A s t → P s → P t) (hs : P s) : r.All P := by
  cases r with
  | ok a u => exact run_keeps (A := A) (fun hm hp => hA hm hp) h hs
  | ended u => exact run_keeps (A := A) (fun hm hp => hA hm hp) h hs
  | fault _ => trivial
  | refused _ => trivial

/-! ## The descriptor list -/

/-- The logical descriptor list of a record is well-formed (R10, R506). -/
theorem wfConfig_items (c : WfConfig) : itemsOk c.val.nIfSlots c.val.configItems = true ∧ c.val.configValue ≠ 0 := by
  have h := c.ok
  simp only [Config.wf, Bool.and_eq_true, decide_eq_true_eq] at h
  tauto

/-- Endpoint numbers of items are 1 to 15 (R10). -/
theorem item_number_ne_zero (c : WfConfig) {e : EpItem} (he : e ∈ itemsOf c.val) : e.number ≠ 0 := by
  have h := (wfConfig_items c).1
  simp only [itemsOk, Bool.and_eq_true, List.all_eq_true] at h
  obtain ⟨⟨-, heps⟩, -⟩ := h
  obtain ⟨p, hp, rfl⟩ := List.mem_map.1 he
  have hok := heps p hp
  simp only [EpItem.ok, Bool.and_eq_true, decide_eq_true_eq] at hok
  rintro h0
  rw [h0] at hok
  exact absurd hok.1 (by decide)

theorem mem_itemsOf {c : Config} {i a : Nat} {e : EpItem} (h : e ∈ endpointsOf c i a) : e ∈ itemsOf c :=
  mem_items_of_mem_endpointsOf h

/-- Distinct endpoints have distinct addresses (R137). -/
theorem epAddress_inj {n m : Fin 16} {d e : Dir} (h : epAddress n d = epAddress m e) : n = m ∧ d = e := by
  have hn := n.isLt
  have hm := m.isLt
  cases d <;> cases e <;> simp only [epAddress] at h
  · exact ⟨Fin.ext h, rfl⟩
  · omega
  · omega
  · exact ⟨Fin.ext (by omega), rfl⟩

/-! ## What an enabled endpoint is -/

/-- What is asked of an enabled endpoint above 0: of its size and its buffer address, under an active configuration. -/
abbrev Ask := Config → Byte → Fin 16 → Dir → Nat → Nat → Prop

/-- Its buffer is inside EPBUF. -/
def askFits : Ask := fun c _ _ _ size off => off + size ≤ c.sharedCapacity

/-- It is an item's, with its buffer where the layout puts it. -/
def askPlaced : Ask := fun c active n d size off =>
  active ≠ 0 ∧ (layoutOf c []).1.lookup (epAddress n d) = some off ∧
    ∃ e ∈ itemsOf c, e.number = n ∧ e.direction = d ∧ e.maxPacketSize = size

/-- The configuration is active with the layout of its items, which fits (43 R286). -/
structure Configured (s : State) : Prop where
  active : s.activeConfig ≠ 0
  layout : s.bufLayout = (layoutOf s.cfg.val []).1
  fits   : (layoutOf s.cfg.val []).2 ≤ s.cfg.val.sharedCapacity

/-- Endpoint 0 works, and every other enabled endpoint is as asked. -/
structure Served (Q : Ask) (s : State) : Prop where
  ep0  : ∀ d, (s.ep 0 d).enabled = true ∧ (s.ep 0 d).maxPacketSize = Const.ep0MaxPacket
  each : ∀ n d, n ≠ 0 → (s.ep n d).enabled = true →
    Q s.cfg.val s.activeConfig n d (s.ep n d).maxPacketSize (s.ep n d).bufferAddress

theorem ep0Ready_iff {s : State} : Ep0Ready s ↔
    ∀ d, (s.ep 0 d).enabled = true ∧ (s.ep 0 d).maxPacketSize = Const.ep0MaxPacket :=
  ⟨fun ⟨hi, his, ho, hos⟩ d => by cases d; exacts [⟨ho, hos⟩, ⟨hi, his⟩],
    fun h => ⟨(h .IN).1, (h .IN).2, (h .OUT).1, (h .OUT).2⟩⟩

/-- An item's region is inside EPBUF where the layout fits. -/
theorem askPlaced_fits {c : Config} {active : Byte} {n : Fin 16} {d : Dir} {size off : Nat}
    (h : askPlaced c active n d size off) (hf : (layoutOf c []).2 ≤ c.sharedCapacity) :
    off + Bits.roundup64 size ≤ c.sharedCapacity := by
  obtain ⟨-, ho, e, he, rfl, rfl, rfl⟩ := h
  obtain ⟨off', ho', -, hend⟩ := layout_region he
  obtain rfl : off' = off := Option.some.inj (ho'.symm.trans ho)
  exact hend.trans hf

/-- What the layout gives an item is as asked. -/
def Grants (Q : Ask) : Prop := ∀ {c : Config} {active : Byte} {n : Fin 16} {d : Dir} {size off : Nat},
  (layoutOf c []).2 ≤ c.sharedCapacity → askPlaced c active n d size off → Q c active n d size off

theorem grants_fits : Grants askFits := fun hf h =>
  (Nat.add_le_add_left (le_roundup64 _) _).trans (askPlaced_fits h hf)

theorem grants_placed : Grants askPlaced := fun _ h => h

/-! ## The procedures keep it -/

section
variable {Q : Ask} {s t : State}

theorem SameEndpoints.served (h : SameEndpoints s t) (hs : Served Q s) : Served Q t := by
  refine ⟨fun d => ?_, fun n d hn he => ?_⟩
  · rw [h.enabled, h.size]; exact hs.ep0 d
  · rw [h.cfg, h.active, h.size, h.address]
    exact hs.each n d hn (h.enabled n d ▸ he)

theorem SameEndpoints.configured (h : SameEndpoints s t) (hs : Configured s) : Configured t :=
  ⟨h.active ▸ hs.active, by rw [h.layout, h.cfg]; exact hs.layout, by rw [h.cfg]; exact hs.fits⟩

theorem disableAll_activeConfig (l : List (Fin 16 × Dir)) (s : State) :
    (disableAll l s).activeConfig = s.activeConfig := by
  induction l generalizing s with
  | nil => rfl
  | cons x r ih => rw [disableAll, ih, disableEndpoint_activeConfig]

/-- Disabling endpoints above 0. -/
theorem disableAll_served {l : List (Fin 16 × Dir)} (hl : ∀ x ∈ l, x.1 ≠ 0) (hs : Served Q s) :
    Served Q (disableAll l s) := by
  have hc := (disableAll_engineKept hl s).cfg
  refine ⟨fun d => ?_, fun n d hn he => ?_⟩
  · rw [ep_disableAll, if_neg fun h => hl _ h rfl]
    exact hs.ep0 d
  · rw [ep_disableAll] at he ⊢
    split at he
    · cases he
    · next h => rw [if_neg h, disableAll_activeConfig, hc]; exact hs.each n d hn he

theorem disableAll_configured {l : List (Fin 16 × Dir)} (hs : Configured s) : Configured (disableAll l s) := by
  induction l generalizing s with
  | nil => exact hs
  | cons x r ih =>
    refine ih ⟨?_, ?_, ?_⟩
    · rw [disableEndpoint_activeConfig]; exact hs.active
    · rw [disableEndpoint_bufLayout, disableEndpoint_cfg]; exact hs.layout
    · rw [disableEndpoint_cfg]; exact hs.fits

/-- Enabling an item under a configuration that is active. -/
theorem enableEndpoint_served {e : EpItem} {u : Unit} (hQ : Grants Q) (hi : e ∈ itemsOf s.cfg.val)
    (h : enableEndpoint e s = .ok u t) (hs : Served Q s ∧ Configured s) : Served Q t ∧ Configured t := by
  obtain ⟨hserved, hconf⟩ := hs
  obtain ⟨off, ho, rfl⟩ := enableEndpoint_eq_ok h
  have hn0 := item_number_ne_zero s.cfg hi
  have hoff : (layoutOf s.cfg.val []).1.lookup (addrOf e) = some off := hconf.layout ▸ ho
  refine ⟨⟨fun d => ?_, fun n d hn he => ?_⟩, by simpa using hconf.active, by simpa using hconf.layout,
    by simpa using hconf.fits⟩
  · rw [ep_emit, ep_setEp, if_neg fun h => hn0 h.1.symm]
    exact hserved.ep0 d
  · simp only [ep_emit, ep_setEp, emit_cfg, setEp_cfg, emit_activeConfig, setEp_activeConfig] at he ⊢
    split at he
    · next h =>
      rw [if_pos h, h.1, h.2]
      exact hQ hconf.fits ⟨hconf.active, hoff, e, hi, rfl, rfl, rfl⟩
    · next h =>
      rw [if_neg h]
      exact hserved.each n d hn he

theorem enableEndpoint_cfg {e : EpItem} {u : Unit} (h : enableEndpoint e s = .ok u t) : t.cfg = s.cfg := by
  rw [enableEndpoint_table h]

theorem enableAll_served {l : List EpItem} (hQ : Grants Q) (hl : ∀ e ∈ l, e ∈ itemsOf s.cfg.val)
    (hs : Served Q s ∧ Configured s) : (enableAll l s).All fun t => Served Q t ∧ Configured t := by
  induction l generalizing s with
  | nil => exact hs
  | cons e r ih =>
    refine All.bind (P := fun t => Served Q t ∧ Configured t) ?_ fun _ u hu hp => ?_
    · unfold enableEndpoint
      split
      · trivial
      · next off ho =>
        exact enableEndpoint_served (u := ()) hQ (hl e List.mem_cons_self) (by rw [enableEndpoint, ho]) hs
    · exact ih (fun x hx => enableEndpoint_cfg hu ▸ hl x (List.mem_cons_of_mem _ hx)) hp

theorem activateInterfaces_served (l : List Byte) (hQ : Grants Q) (hs : Served Q s ∧ Configured s) :
    (activateInterfaces l s).All fun t => Served Q t ∧ Configured t := by
  induction l generalizing s with
  | nil => exact hs
  | cons i r ih =>
    refine All.bind (enableAll_served hQ (fun e he => mem_itemsOf he) hs) fun _ u _ hu => ?_
    refine All.bind ((invokeCallback_does (sc := .any) _ _ u).all
      (fun h hs => ⟨(act_sameEndpoints h).served hs.1, (act_sameEndpoints h).configured hs.2⟩) hu) fun b v _ hv => ?_
    split
    · exact ih hv
    · exact hv

/-- With no active configuration everything above endpoint 0 is disabled (43 R284). -/
theorem ep_deactivate (s : State) (n : Fin 16) (d : Dir) : (deactivate s).ep n d =
    if n = 0 then s.ep n d else { s.ep n d with enabled := false, armed := none } := by
  have hmem : (n, d) ∈ nonControlEndpoints ↔ n ≠ 0 := by
    revert n; cases d <;> decide
  have hall := ep_disableAll nonControlEndpoints s n d
  unfold deactivate
  generalize disableAll nonControlEndpoints s = u at hall
  refine (ep_congr rfl rfl n d).trans (hall.trans ?_)
  by_cases hn : n = 0
  · rw [if_pos hn, if_neg fun h => hmem.1 h hn]
  · rw [if_neg hn, if_pos (hmem.2 hn)]

theorem deactivate_cfg (s : State) : (deactivate s).cfg = s.cfg := (deactivate_engineKept s).cfg

theorem deactivate_served {Q' : Ask} (hs : Served Q s) : Served Q' (deactivate s) := by
  refine ⟨fun d => ?_, fun n d hn he => ?_⟩
  · rw [ep_deactivate, if_pos rfl]; exact hs.ep0 d
  · rw [ep_deactivate, if_neg hn] at he
    cases he

/-- What the layout and the number of the active configuration leave of it. -/
theorem Served.relabel (hs : Served Q s) (hoff : ∀ n d, n ≠ 0 → (s.ep n d).enabled = false) (ho : t.epOut = s.epOut)
    (hi : t.epIn = s.epIn) : Served Q t := by
  refine ⟨fun d => ?_, fun n d hn he => ?_⟩
  · rw [ep_congr ho hi]; exact hs.ep0 d
  · rw [ep_congr ho hi, hoff n d hn] at he
    cases he

theorem deactivate_off (s : State) (n : Fin 16) (d : Dir) (hn : n ≠ 0) : ((deactivate s).ep n d).enabled = false := by
  rw [ep_deactivate, if_neg hn]

/-- The layout and the walk, from a state with nothing enabled above endpoint 0 (R284). -/
theorem layoutAndWalk_served (hQ : Grants Q) {n : Byte} (hn : n ≠ 0) {u : State} (hu : Served Q u)
    (hoff : ∀ n d, n ≠ 0 → (u.ep n d).enabled = false) (ha : u.activeConfig = 0) (hl : u.bufLayout = []) :
    ((computeLayout u).bind fun _ s => activateInterfaces (interfacesOf s.cfg.val) { s with activeConfig := n }).All
      fun t => Served Q t ∧ LayoutKnown t := by
  rcases computeLayout_cases u with ⟨hfit, e⟩ | ⟨-, e⟩ <;> rw [e]
  · rw [hl] at hfit
    have hv : Served Q { u with bufLayout := (layoutOf u.cfg.val u.bufLayout).1, activeConfig := n } :=
      hu.relabel hoff rfl rfl
    have hall := activateInterfaces_served (interfacesOf u.cfg.val) hQ ⟨hv, ⟨hn, by rw [hl], hfit⟩⟩
    rw [bind_ok]
    revert hall
    cases activateInterfaces _ _ with
    | ok b t => exact fun h => ⟨h.1, fun _ => ⟨h.2.layout, h.2.fits⟩⟩
    | ended t => exact fun h => ⟨h.1, fun _ => ⟨h.2.layout, h.2.fits⟩⟩
    | fault f => exact id
    | refused e => exact id
  · exact ⟨hu.relabel hoff rfl rfl, fun h => absurd ha h⟩

theorem deactivate_bufLayout (s : State) : (deactivate s).bufLayout = [] := by unfold deactivate; rfl

theorem deactivate_activeConfig (s : State) : (deactivate s).activeConfig = 0 := by unfold deactivate; rfl

theorem activateConfiguration_served (n : Byte) (hQ : Grants Q) (hs : Served Q s ∧ LayoutKnown s) :
    (activateConfiguration n s).All fun t => Served Q t ∧ LayoutKnown t := by
  have hserved : Served Q (deactivate s) := deactivate_served hs.1
  have hoff := deactivate_off s
  have hact := deactivate_activeConfig s
  have hlay := deactivate_bufLayout s
  unfold activateConfiguration
  generalize deactivate s = u at hserved hoff hact hlay ⊢
  split_ifs with h1 h2
  · exact hs
  · exact ⟨hserved, fun h => absurd hact h⟩
  · exact layoutAndWalk_served hQ h2 hserved hoff hact hlay

theorem setAlternateSetting_served {i a : BitVec 16} {b : Bool} (hQ : Grants Q) (hs : Served Q s ∧ LayoutKnown s)
    (h : setAlternateSetting i a s = .ok b t) : Served Q t ∧ LayoutKnown t := by
  unfold setAlternateSetting at h
  split_ifs at h with h1 h2
  · cases h; exact hs
  · cases h; exact hs
  · have hconf : Configured s := ⟨h1, (hs.2 h1).1, (hs.2 h1).2⟩
    have hold : ∀ x ∈ (endpointsOf s.cfg.val i.toNat (altSettingOf s i.toNat).toNat).map fun e => (e.number, e.direction),
        x.1 ≠ 0 := by
      intro x hx
      obtain ⟨e, he, rfl⟩ := List.mem_map.1 hx
      exact item_number_ne_zero s.cfg (mem_itemsOf he)
    have hcfg := (disableAll_engineKept hold s).cfg
    have hall := enableAll_served hQ (l := endpointsOf s.cfg.val i.toNat a.toNat)
      (fun e he => by rw [hcfg]; exact mem_itemsOf he) ⟨disableAll_served hold hs.1, disableAll_configured hconf⟩
    obtain ⟨_, u, hu, he⟩ := bind_eq_ok h
    rw [hu] at hall
    cases he
    exact ⟨⟨hall.1.ep0, hall.1.each⟩, fun _ => ⟨hall.2.layout, hall.2.fits⟩⟩

theorem move_served {sc : Scope} (hQ : Grants Q) (h : Move sc s t) (hs : Served Q s ∧ LayoutKnown s) :
    Served Q t ∧ LayoutKnown t := by
  rcases h with h | h
  · have hsame := act_sameEndpoints h
    refine ⟨hsame.served hs.1, fun ha => ?_⟩
    rw [hsame.active] at ha
    rw [hsame.cfg, hsame.layout]
    exact hs.2 ha
  · cases h with
    | activate h => exact All.of_next (activateConfiguration_served _ hQ hs) h
    | switch h => exact setAlternateSetting_served hQ hs h

end

/-! ## The schedule -/

theorem act_schedule {sc : Scope} {s t : State} (h : Act sc s t) : t.schedule ⊆ s.schedule := by
  cases h with
  | plain h => rw [h]; exact List.Subset.refl _
  | endpoint n d a p => rw [setEp_schedule]; exact List.Subset.refl _
  | copy sp a b _ hsp hb => rw [setMem_schedule]; exact List.Subset.refl _
  | ringWrite h => rw [ringWrite_rb h]; exact List.Subset.refl _
  | ringResize h => rw [ringResize_rb h]; exact List.Subset.refl _
  | ringRead _ h => rw [ringRead_rb h]; exact List.Subset.refl _
  | context _ _ _ hs => exact hs
  | _ => exact List.Subset.refl _

theorem configAct_schedule {s t : State} (h : ConfigAct s t) : t.schedule ⊆ s.schedule := by
  cases h with
  | enable h => rw [enableEndpoint_table h]; exact List.Subset.refl _
  | disable n d => rw [disableEndpoint_schedule]; exact List.Subset.refl _
  | _ => exact List.Subset.refl _

theorem moves_schedule {sc : Scope} {s t : State} (h : Relation.ReflTransGen (Move sc) s t) :
    t.schedule ⊆ s.schedule :=
  run_related (R := fun s t : State => t.schedule ⊆ s.schedule) (fun _ => List.Subset.refl _)
    (fun h k _ hx => h (k hx)) (fun h => h.elim act_schedule configAct_schedule) (moves_fine h)

/-! ## A step of the wire -/

theorem resetOf_served (Q : Ask) (c : WfConfig) :
    Served Q (State.resetOf c) ∧ LayoutKnown (State.resetOf c) := by
  refine ⟨⟨fun d => ?_, fun n d hn he => ?_⟩, fun h => absurd rfl h⟩
  · rw [ep_resetOf, if_pos rfl]; exact ⟨rfl, rfl⟩
  · rw [ep_resetOf, if_neg hn] at he
    cases he

theorem wire_served {Q : Ask} (hQ : Grants Q) {s t : State} (hw : WireSchedule s) (h : step s = .next t)
    (hs : Served Q s ∧ LayoutKnown s) : Served Q t ∧ LayoutKnown t := by
  rcases wire_step hw h with ⟨r, -, rfl⟩ | ⟨k, r, -, -, rfl⟩ | hm
  · have hreset := resetOf_served Q s.cfg
    exact ⟨⟨hreset.1.ep0, hreset.1.each⟩, hreset.2⟩
  · exact ⟨⟨hs.1.ep0, hs.1.each⟩, hs.2⟩
  · exact run_keeps (A := Move .any) (P := fun s => Served Q s ∧ LayoutKnown s) (move_served hQ) hm hs

theorem wire_schedule {s t : State} (hw : WireSchedule s) (h : step s = .next t) : WireSchedule t := by
  rcases wire_step hw h with ⟨r, hr, rfl⟩ | ⟨k, r, hr, -, rfl⟩ | hm
  · exact fun x hx => hw x (hr ▸ List.mem_cons_of_mem _ hx)
  · exact fun x hx => hw x (hr ▸ List.mem_cons_of_mem _ hx)
  · exact fun x hx => hw x (moves_schedule hm hx)

theorem usbReady_iff {s : State} : UsbReady s ↔ Served askFits s ∧ LayoutKnown s :=
  ⟨fun ⟨h0, hl, hf⟩ => ⟨⟨ep0Ready_iff.1 h0, hf⟩, hl⟩, fun ⟨h, hl⟩ => ⟨ep0Ready_iff.2 h.ep0, hl, h.each⟩⟩

/-- Under a known layout, placed buffers are those that meet `askPlaced`. -/
theorem served_placed_iff {s : State} (h0 : Ep0Ready s) (hl : LayoutKnown s) :
    Served askPlaced s ↔ BuffersPlaced s := by
  constructor
  · rintro ⟨-, h⟩ n d hn he
    obtain ⟨ha, ho, hi⟩ := h n d hn he
    exact ⟨ha, by rw [layoutAt, (hl ha).1]; exact ho, hi⟩
  · refine fun h => ⟨ep0Ready_iff.1 h0, fun n d hn he => ?_⟩
    obtain ⟨ha, ho, hi⟩ := h n d hn he
    exact ⟨ha, by rw [layoutAt, (hl ha).1] at ho; exact ho, hi⟩

/-- Placed buffers are inside EPBUF and apart from each other (43 R280 (b)). -/
theorem buffersApart_of_placed {s : State} (h : Served askPlaced s) (hl : LayoutKnown s) : BuffersApart s := by
  refine ⟨fun n d hn he => ?_, fun n d m e hn hm hne he he' => ?_⟩
  · have hq := h.each n d hn he
    exact askPlaced_fits hq (hl hq.1).2
  · obtain ⟨-, ho, x, hx, rfl, rfl, hxs⟩ := h.each n d hn he
    obtain ⟨-, ho', y, hy, rfl, rfl, hys⟩ := h.each m e hm he'
    have haddr : addrOf x ≠ addrOf y := fun ha => hne (by
      obtain ⟨h1, h2⟩ := epAddress_inj ha
      rw [h1, h2])
    rw [← hxs, ← hys]
    rcases Nat.lt_or_gt_of_ne haddr with hlt | hlt
    · exact .inl (layout_ascends hx hy hlt ho ho')
    · exact .inr (layout_ascends hy hx hlt ho' ho)

/-- Settles O18. -/
theorem wireStepKeepsUsbReady : Obligations.WireStepKeepsUsbReady := by
  refine ⟨fun s t hs h => ?_, fun c => ?_, fun s t hs h => ?_⟩
  · exact ⟨wire_schedule hs.1 h, usbReady_iff.2 (wire_served grants_fits hs.1 h (usbReady_iff.1 hs.2))⟩
  · obtain ⟨hserved, hl⟩ := resetOf_served askPlaced c
    exact (served_placed_iff (ep0Ready_iff.2 hserved.ep0) hl).1 hserved
  · obtain ⟨hw, hready, hplaced⟩ := hs
    have hs' := (served_placed_iff hready.ep0 hready.layout).2 hplaced
    obtain ⟨ht, hl⟩ := wire_served grants_placed hw h ⟨hs', hready.layout⟩
    exact ⟨(served_placed_iff (ep0Ready_iff.2 ht.ep0) hl).1 ht, buffersApart_of_placed ht hl⟩

end Sys2Proof.Machine
end

section
set_option Elab.async false
/-! PROOFS. On the stimuli of the wire endpoints 1 to 15 are enabled exactly as the active alternate settings say
(spec/43_endpoint_manager.md R280 (a)), where no external set-interface callback can fail. -/

namespace Sys2Proof.Machine

/-! ## The descriptor list -/

/-- What R10 says of the descriptor list: interfaces are below the number of slots, and an endpoint that stands twice
stands in two alternate settings of one interface. -/
theorem items_facts (c : WfConfig) : startsWithIface c.val.configItems = true ∧
    (∀ p ∈ ifacesOf c.val.configItems, p.1.toNat < c.val.nIfSlots) ∧
    (itemsFrom (0, 0) c.val.configItems).Pairwise fun p q =>
      (p.2.number, p.2.direction) = (q.2.number, q.2.direction) → p.1 ≠ q.1 ∧ p.1.1 = q.1.1 := by
  have h := (wfConfig_items c).1
  simp only [itemsOk, Bool.and_eq_true, decide_eq_true_eq, List.all_eq_true] at h
  obtain ⟨⟨⟨⟨⟨hstart, -⟩, -⟩, hslots⟩, -⟩, hpair⟩ := h
  exact ⟨hstart, hslots, hpair⟩

theorem mem_endpointsOf {c : Config} {i a : Nat} {e : EpItem} : e ∈ endpointsOf c i a ↔
    ∃ p ∈ itemsFrom (0, 0) c.configItems, p.1.1.toNat = i ∧ p.1.2.toNat = a ∧ p.2 = e := by
  simp only [endpointsOf, List.mem_map, List.mem_filter, Bool.and_eq_true, decide_eq_true_eq]
  exact ⟨fun ⟨p, ⟨hp, hi, ha⟩, he⟩ => ⟨p, hp, hi, ha, he⟩, fun ⟨p, hp, hi, ha, he⟩ => ⟨p, ⟨hp, hi, ha⟩, he⟩⟩

/-- An endpoint belongs to one interface (R10). -/
theorem endpoint_interface (c : WfConfig) {i j a b : Nat} {e f : EpItem} (he : e ∈ endpointsOf c.val i a)
    (hf : f ∈ endpointsOf c.val j b) (hn : e.number = f.number) (hd : e.direction = f.direction) : i = j := by
  obtain ⟨p, hp, rfl, -, rfl⟩ := mem_endpointsOf.1 he
  obtain ⟨q, hq, rfl, -, rfl⟩ := mem_endpointsOf.1 hf
  by_cases hpq : p = q
  · rw [hpq]
  · have hpair : (itemsFrom (0, 0) c.val.configItems).Pairwise fun p q =>
        (p.2.number, p.2.direction) = (q.2.number, q.2.direction) → p.1.1 = q.1.1 :=
      (items_facts c).2.2.imp fun h e => (h e).2
    have hsymm : Std.Symm fun p q : (Byte × Byte) × EpItem =>
        (p.2.number, p.2.direction) = (q.2.number, q.2.direction) → p.1.1 = q.1.1 :=
      ⟨fun _ _ h e => (h e.symm).symm⟩
    rw [hpair.forall hp hq hpq (by rw [hn, hd])]

/-- The interface of an endpoint is one of the list's. -/
theorem mem_ifaces_of_mem_itemsFrom {l : List ConfigItem} {cur : Byte × Byte} {p : (Byte × Byte) × EpItem}
    (h : p ∈ itemsFrom cur l) : p.1 = cur ∨ p.1 ∈ ifacesOf l := by
  induction l generalizing cur with
  | nil => cases h
  | cons x r ih =>
    cases x with
    | iface n a => exact .inr (List.mem_cons.2 (ih h))
    | ep e =>
      rcases List.mem_cons.1 h with rfl | h
      · exact .inl rfl
      · exact ih h

theorem mem_ifaces_of_mem_items (c : WfConfig) {p : (Byte × Byte) × EpItem}
    (h : p ∈ itemsFrom (0, 0) c.val.configItems) : p.1 ∈ ifacesOf c.val.configItems := by
  have hstart := (items_facts c).1
  cases hl : c.val.configItems with
  | nil => rw [hl] at h; cases h
  | cons x r =>
    rw [hl] at h hstart
    cases x with
    | iface n a => exact List.mem_cons.2 (mem_ifaces_of_mem_itemsFrom h)
    | ep e => cases hstart

theorem mem_firstOccurrences {l : List Byte} {i : Byte} : i ∈ firstOccurrences l ↔ i ∈ l := by
  induction l with
  | nil => rfl
  | cons x r ih =>
    simp only [firstOccurrences, List.mem_cons, List.mem_filter, ih, decide_eq_true_eq]
    by_cases h : i = x <;> simp [h]

/-- The interface of an endpoint is walked by the activation (R281, R284). -/
theorem mem_interfacesOf (c : WfConfig) {i : Byte} {a : Nat} {e : EpItem} (h : e ∈ endpointsOf c.val i.toNat a) :
    i ∈ interfacesOf c.val := by
  obtain ⟨p, hp, hi, -, -⟩ := mem_endpointsOf.1 h
  rw [interfacesOf, mem_firstOccurrences, List.mem_map]
  exact ⟨p.1, mem_ifaces_of_mem_items c hp, BitVec.eq_of_toNat_eq hi⟩

/-! ## What is enabled -/

/-- An endpoint stands in a list of items. -/
def Listed (l : List EpItem) (n : Fin 16) (d : Dir) : Prop := ∃ e ∈ l, e.number = n ∧ e.direction = d

/-- Enabling a list changes the endpoint table and the trace alone, and enables what is listed. -/
theorem enableAll_enables {l : List EpItem} {s t : State} (h : enableAll l s = .ok () t) :
    t = { s with epOut := t.epOut, epIn := t.epIn, trace := t.trace } ∧
      ∀ n d, (t.ep n d).enabled = true ↔ Listed l n d ∨ (s.ep n d).enabled = true := by
  induction l generalizing s with
  | nil => cases h; exact ⟨rfl, fun n d => by simp [Listed]⟩
  | cons e r ih =>
    obtain ⟨_, u, hu, hr⟩ := bind_eq_ok h
    have htable := enableEndpoint_table hu
    obtain ⟨ht, hen⟩ := ih hr
    refine ⟨by rw [ht, htable], fun n d => ?_⟩
    obtain ⟨off, -, rfl⟩ := enableEndpoint_eq_ok hu
    rw [hen, ep_emit, ep_setEp]
    simp only [Listed, List.mem_cons, exists_eq_or_imp, eq_comm (a := n), eq_comm (a := d)]
    by_cases hx : e.number = n ∧ e.direction = d <;> simp [hx]

/-- What a callback leaves of the configuration. -/
theorem invokeCallback_same {i a : BitVec 16} {s t : State} {b : Bool} (h : invokeCallback i a s = .ok b t) :
    SameEndpoints s t :=
  run_related (A := Act .any) (R := SameEndpoints) SameEndpoints.refl SameEndpoints.trans act_sameEndpoints ((
    invokeCallback_does (sc := .any) i a s).of_ok h)

/-- Without external callbacks, the callback of alternate setting 0 succeeds (R350). -/
theorem invokeCallback_zero {i : BitVec 16} {s t : State} {b : Bool} (hx : NoExternalCallback s.cfg.val)
    (h : invokeCallback i 0 s = .ok b t) : b = true := by
  unfold invokeCallback at h
  split at h
  · cases h; rfl
  · rw [streamingCallback, if_pos rfl] at h
    cases h; rfl
  · next he =>
    unfold setIfCallback at he
    split_ifs at he
    · cases he
    next hany =>
      obtain ⟨x, hmem, hset⟩ := List.any_eq_true.1 hany
      rw [Bool.and_eq_true, hx x hmem] at hset
      exact absurd hset.2 Bool.false_ne_true

/-- The walk enables the endpoints of every interface's alternate setting 0 (R284). -/
theorem activateInterfaces_enables {l : List Byte} {s t : State} {b : Bool} (hx : NoExternalCallback s.cfg.val)
    (h : activateInterfaces l s = .ok b t) :
    t.cfg = s.cfg ∧ t.activeConfig = s.activeConfig ∧ t.altSetting = s.altSetting ∧
      ∀ n d, (t.ep n d).enabled = true ↔
        (∃ i ∈ l, Listed (endpointsOf s.cfg.val i.toNat 0) n d) ∨ (s.ep n d).enabled = true := by
  induction l generalizing s with
  | nil => cases h; exact ⟨rfl, rfl, rfl, fun n d => by simp⟩
  | cons i r ih =>
    obtain ⟨_, u, hu, h⟩ := bind_eq_ok h
    obtain ⟨ok, v, hv, h⟩ := bind_eq_ok h
    obtain ⟨htable, hen⟩ := enableAll_enables hu
    have hcfg : u.cfg = s.cfg := by rw [htable]
    have hact : u.activeConfig = s.activeConfig := by rw [htable]
    have halt : u.altSetting = s.altSetting := by rw [htable]
    have hok : ok = true := invokeCallback_zero (hcfg ▸ hx) hv
    have hsame := invokeCallback_same hv
    rw [hok, if_pos rfl] at h
    obtain ⟨hc, ha, hs, he⟩ := ih (by rw [hsame.cfg, hcfg]; exact hx) h
    refine ⟨hc.trans (hsame.cfg.trans hcfg), ha.trans (hsame.active.trans hact), hs.trans (hsame.alts.trans halt),
      fun n d => ?_⟩
    rw [he, hsame.enabled, hen, hsame.cfg, hcfg]
    simp only [List.mem_cons, exists_eq_or_imp]
    rw [or_left_comm, or_assoc]

/-! ## The contract -/

/-- The contract, with what it needs of the stored alternate settings. -/
def Contract (s : State) : Prop :=
  AltSettingsSized s ∧ ∀ n d, n ≠ 0 → ((s.ep n d).enabled = true ↔ s.activeConfig ≠ 0 ∧ InActiveSetting s n d)

theorem inActiveSetting_iff {s : State} {n : Fin 16} {d : Dir} : InActiveSetting s n d ↔
    ∃ i : Byte, Listed (endpointsOf s.cfg.val i.toNat (altSettingOf s i.toNat).toNat) n d := Iff.rfl

theorem SameEndpoints.contract {s t : State} (h : SameEndpoints s t) (hs : Contract s) : Contract t := by
  refine ⟨by rw [AltSettingsSized, h.alts, h.cfg]; exact hs.1, fun n d hn => ?_⟩
  simp only [inActiveSetting_iff, altSettingOf]
  rw [h.enabled, h.active, h.cfg, h.alts]
  exact hs.2 n d hn

/-- With nothing enabled and no active configuration. -/
theorem contract_off {s : State} (ha : AltSettingsSized s) (h0 : s.activeConfig = 0)
    (hoff : ∀ n d, n ≠ 0 → (s.ep n d).enabled = false) : Contract s :=
  ⟨ha, fun n d hn => ⟨fun h => absurd h (by rw [hoff n d hn]; exact Bool.false_ne_true), fun h => absurd h0 h.1⟩⟩

/-- After the whole walk: every interface in alternate setting 0. -/
theorem layoutAndWalk_contract {n : Byte} (hn : n ≠ 0) {u t : State} (hx : NoExternalCallback u.cfg.val)
    (hoff : ∀ n d, n ≠ 0 → (u.ep n d).enabled = false) (ha : u.activeConfig = 0) (hs : AltSettingsSized u)
    (hz : ∀ i, altSettingOf u i = 0)
    (h : ((computeLayout u).bind fun _ s => activateInterfaces (interfacesOf s.cfg.val)
      { s with activeConfig := n }).outcome = .next t) : Contract t := by
  rcases computeLayout_cases u with ⟨-, e⟩ | ⟨-, e⟩ <;> rw [e] at h
  · rw [bind_ok] at h
    have hcases := activateInterfaces_total (interfacesOf u.cfg.val)
      (s := { u with bufLayout := (layoutOf u.cfg.val u.bufLayout).1, activeConfig := n }) ?_
    · obtain ⟨b, v, hv, -⟩ := hcases
      have hrun : (Res.ok b v).outcome = .next t := hv ▸ h
      cases hrun
      obtain ⟨hc, hact, halt, hen⟩ := activateInterfaces_enables (by exact hx) hv
      refine ⟨by rw [AltSettingsSized, halt, hc]; exact hs, fun m d hm => ?_⟩
      have hstored : ∀ i, altSettingOf t i = 0 := fun i => by rw [altSettingOf, halt]; exact hz i
      rw [hen, inActiveSetting_iff, hact, hc]
      simp only [hstored]
      constructor
      · rintro (⟨i, -, hl⟩ | he)
        · exact ⟨hn, i, hl⟩
        · exact absurd (hoff m d hm) (by rw [show (u.ep m d).enabled = true from he]; simp)
      · rintro ⟨-, i, e, he, hl⟩
        exact .inl ⟨i, mem_interfacesOf u.cfg he, e, he, hl⟩
    · intro e he
      rw [show layoutAt _ (addrOf e) = (layoutOf u.cfg.val u.bufLayout).1.lookup (addrOf e) from rfl,
        lookup_layoutOf_isSome]
      exact .inr ⟨e, he, rfl⟩
  · cases h
    exact contract_off hs ha hoff

theorem deactivate_altSetting (s : State) : (deactivate s).altSetting = s.altSetting.map fun _ => 0 := by
  unfold deactivate; rfl

theorem altSettingOf_deactivate (s : State) (i : Nat) : altSettingOf (deactivate s) i = 0 := by
  rw [altSettingOf, deactivate_altSetting, List.getD_eq_getElem?_getD, List.getElem?_map]
  cases s.altSetting[i]? <;> rfl

theorem activateConfiguration_contract {n : Byte} {s t : State} (hx : NoExternalCallback s.cfg.val) (hs : Contract s)
    (h : (activateConfiguration n s).outcome = .next t) : Contract t := by
  have hoff := deactivate_off s
  have hact := deactivate_activeConfig s
  have hz := altSettingOf_deactivate s
  have hcfg := deactivate_cfg s
  have hsize : AltSettingsSized (deactivate s) := by
    rw [AltSettingsSized, deactivate_altSetting, List.length_map, hcfg]; exact hs.1
  unfold activateConfiguration at h
  generalize deactivate s = u at *
  split_ifs at h with h1 h2
  · cases h; exact hs
  · cases h; exact contract_off hsize hact hoff
  · exact layoutAndWalk_contract h2 (hcfg ▸ hx) hoff hact hsize hz h

theorem disableAll_table (l : List (Fin 16 × Dir)) (s : State) : disableAll l s = { s with
    epOut := (disableAll l s).epOut, epIn := (disableAll l s).epIn, trace := (disableAll l s).trace } := by
  induction l generalizing s with
  | nil => rfl
  | cons x r ih =>
    rw [disableAll, ih, disableEndpoint_table]

theorem mem_endpoints_of_items {l : List EpItem} {n : Fin 16} {d : Dir} :
    (n, d) ∈ l.map (fun e => (e.number, e.direction)) ↔ Listed l n d := by
  simp only [List.mem_map, Listed, Prod.mk.injEq]

/-- What a switch of an interface's alternate setting leaves (R290). -/
theorem setAlternateSetting_switches {i a : BitVec 16} {s t : State} {b : Bool}
    (h : setAlternateSetting i a s = .ok b t) :
    (t = s ∧ b = false ∧ (s.activeConfig = 0 ∨ hasAlt s.cfg.val i.toNat a.toNat = false)) ∨
    (b = true ∧ s.activeConfig ≠ 0 ∧ hasAlt s.cfg.val i.toNat a.toNat = true ∧
      t = { s with
        altSetting := s.altSetting.set i.toNat (a.setWidth 8), epOut := t.epOut, epIn := t.epIn, trace := t.trace } ∧
      ∀ n d, (t.ep n d).enabled = true ↔ Listed (endpointsOf s.cfg.val i.toNat a.toNat) n d ∨
        ¬Listed (endpointsOf s.cfg.val i.toNat (altSettingOf s i.toNat).toNat) n d ∧ (s.ep n d).enabled = true) := by
  unfold setAlternateSetting at h
  split_ifs at h with h1 h2
  · cases h; exact .inl ⟨rfl, rfl, .inl h1⟩
  · cases h; exact .inl ⟨rfl, rfl, .inr h2⟩
  · obtain ⟨_, u, hu, he⟩ := bind_eq_ok h
    cases he
    obtain ⟨htable, hen⟩ := enableAll_enables hu
    refine .inr ⟨rfl, h1, by simpa using h2, ?_, fun n d => ?_⟩
    · rw [htable, disableAll_table]
    · refine (hen n d).trans (or_congr Iff.rfl ?_)
      rw [ep_disableAll]
      by_cases hm : Listed (endpointsOf s.cfg.val i.toNat (altSettingOf s i.toNat).toNat) n d
      · rw [if_pos (mem_endpoints_of_items.2 hm)]; simp [hm]
      · rw [if_neg fun h => hm (mem_endpoints_of_items.1 h)]; simp [hm]

/-- An alternate setting of the list names a slot and fits a byte (R10, R281). -/
theorem hasAlt_bounds (c : WfConfig) {i a : Nat} (h : hasAlt c.val i a = true) :
    i < c.val.nIfSlots ∧ a < 256 ∧ i < 256 := by
  obtain ⟨p, hp, hpa⟩ := List.any_eq_true.1 h
  simp only [Bool.and_eq_true, decide_eq_true_eq] at hpa
  have h1 := (items_facts c).2.1 p hp
  have h2 := p.2.isLt
  have h3 := p.1.isLt
  omega

theorem setAlternateSetting_contract {i a : BitVec 16} {s t : State} {b : Bool} (hs : Contract s)
    (h : setAlternateSetting i a s = .ok b t) : Contract t := by
  rcases setAlternateSetting_switches h with ⟨rfl, -⟩ | ⟨-, hact, halt, ht, hen⟩
  · exact hs
  obtain ⟨hi, ha, hi'⟩ := hasAlt_bounds s.cfg halt
  obtain ⟨hsize, hcontract⟩ := hs
  have hcfg : t.cfg = s.cfg := by rw [ht]
  have hactive : t.activeConfig = s.activeConfig := by rw [ht]
  have halts : t.altSetting = s.altSetting.set i.toNat (a.setWidth 8) := by rw [ht]
  have hnew : altSettingOf t i.toNat = a.setWidth 8 := by
    rw [altSettingOf, halts, List.getD_eq_getElem?_getD, List.getElem?_set_self (by rw [hsize]; exact hi),
      Option.getD_some]
  have hold : ∀ j, j ≠ i.toNat → altSettingOf t j = altSettingOf s j := fun j hj => by
    rw [altSettingOf, altSettingOf, halts, List.getD_eq_getElem?_getD, List.getD_eq_getElem?_getD,
      List.getElem?_set_ne (Ne.symm hj)]
  have hnewNat : (altSettingOf t i.toNat).toNat = a.toNat := by
    rw [hnew, BitVec.toNat_setWidth, Nat.mod_eq_of_lt ha]
  have hiByte : (BitVec.ofNat 8 i.toNat).toNat = i.toNat := by rw [BitVec.toNat_ofNat, Nat.mod_eq_of_lt hi']
  refine ⟨by rw [AltSettingsSized, halts, List.length_set, hcfg]; exact hsize, fun n d hn => ?_⟩
  rw [hen, hcontract n d hn, hactive, inActiveSetting_iff, inActiveSetting_iff, hcfg]
  constructor
  · rintro (hl | ⟨hno, -, j, hl⟩)
    · exact ⟨hact, BitVec.ofNat 8 i.toNat, by rw [hiByte, hnewNat]; exact hl⟩
    · have hj : j.toNat ≠ i.toNat := fun e => hno (e ▸ hl)
      exact ⟨hact, j, by rw [hold _ hj]; exact hl⟩
  · rintro ⟨-, j, hl⟩
    by_cases hj : j.toNat = i.toNat
    · rw [hj, hnewNat] at hl
      exact .inl hl
    · rw [hold _ hj] at hl
      refine .inr ⟨?_, hact, j, hl⟩
      rintro ⟨f, hf, hfn, hfd⟩
      obtain ⟨e, he, hen, hed⟩ := hl
      exact hj (endpoint_interface s.cfg he hf (hen.trans hfn.symm) (hed.trans hfd.symm))

theorem move_contract {sc : Scope} {s t : State} (h : Move sc s t)
    (hs : NoExternalCallback s.cfg.val ∧ Contract s) : NoExternalCallback t.cfg.val ∧ Contract t := by
  have hcfg : t.cfg = s.cfg := (fine_controlKept (moves_fine (.single h))).cfg
  refine ⟨hcfg ▸ hs.1, ?_⟩
  rcases h with h | h
  · exact (act_sameEndpoints h).contract hs.2
  · cases h with
    | activate h => exact activateConfiguration_contract hs.1 hs.2 h
    | switch h => exact setAlternateSetting_contract hs.2 h

theorem resetOf_contract (c : WfConfig) : Contract (State.resetOf c) :=
  contract_off (resetOf_alts c) rfl fun n d hn => by rw [ep_resetOf, if_neg hn]; rfl

/-- Settles O19. -/
theorem wireStepKeepsEndpointContract : Obligations.WireStepKeepsEndpointContract := by
  intro s t hx ⟨hw, ha, hc⟩ h
  have hs : Contract s := ⟨ha, hc⟩
  rcases wire_step hw h with ⟨r, -, rfl⟩ | ⟨k, r, -, -, rfl⟩ | hm
  · exact (resetOf_contract s.cfg).2
  · exact hs.2
  · exact (run_keeps (A := Move .any) (P := fun s => NoExternalCallback s.cfg.val ∧ Contract s) move_contract hm
      ⟨hx, hs⟩).2.2

end Sys2Proof.Machine
end

section
set_option Elab.async false
/-! PROOFS. The main loop and its micro-steps (spec/48_event_queue.md R424), what the handling of an event leaves of the
queue and of the schedule, and reset. -/

namespace Sys2Proof.Machine

/-! ## What the handling of an event leaves -/

/-- What the handling of an event leaves as it was: what the two contexts share, the bytes the hardware stored; it
starts no playing, and an event without a class payload sets no channel. -/
structure EventKept (sc : Scope) (s t : State) : Prop where
  evq         : t.evq = s.evq
  bufferReady : t.bufferReady = s.bufferReady
  eventsLeft  : t.eventsLeft = s.eventsLeft
  schedule    : t.schedule = s.schedule
  ep0out      : t.ep0out = s.ep0out
  playing     : t.pstate = .playing → s.pstate = .playing
  chan        : sc = .event → t.chan = s.chan
  format      : s.format ≠ none → t.format ≠ none
  epbuf       : ∀ a, s.epbuf.read a ≠ none → t.epbuf.read a ≠ none

section
variable {sc : Scope} {s t u : State}

theorem EventKept.refl (s : State) : EventKept sc s s := ⟨rfl, rfl, rfl, rfl, rfl, id, fun _ => rfl, id, fun _ => id⟩

theorem EventKept.trans (h : EventKept sc s t) (k : EventKept sc t u) : EventKept sc s u :=
  ⟨k.evq.trans h.evq, k.bufferReady.trans h.bufferReady, k.eventsLeft.trans h.eventsLeft, k.schedule.trans h.schedule,
    k.ep0out.trans h.ep0out, h.playing ∘ k.playing, fun e => (k.chan e).trans (h.chan e), k.format ∘ h.format,
    fun a => k.epbuf a ∘ h.epbuf a⟩

theorem EventKept.of_eq (h : t = { s with
    ctrlPhase := t.ctrlPhase, setup := t.setup, cts := t.cts, pendingOut := t.pendingOut
    pendingAddress := t.pendingAddress, addressPending := t.addressPending, deviceAddress := t.deviceAddress
    activeConfig := t.activeConfig, altSetting := t.altSetting, ep0Stalled := t.ep0Stalled, fatal := t.fatal
    epOut := t.epOut, epIn := t.epIn, bufLayout := t.bufLayout, sampleRate := t.sampleRate, rb := t.rb
    steadyFill := t.steadyFill, filtered := t.filtered, outputRunning := t.outputRunning, ledFast := t.ledFast
    periodFrames := t.periodFrames, ep0in := t.ep0in, hwbuf := t.hwbuf, trace := t.trace, nextPeriod := t.nextPeriod
    ret := t.ret, freeCount := t.freeCount }) : EventKept sc s t := by
  rw [h]
  exact ⟨rfl, rfl, rfl, rfl, rfl, id, fun _ => rfl, id, fun _ => id⟩

/-- A byte that is written stays written. -/
theorem writeN_written {m : Memory} {a : Nat} (base : Nat) (b : Bytes) (h : m.read a ≠ none) :
    (m.writeN base b).read a ≠ none := by
  rw [read_writeN, stored]
  split
  · next hin => rw [List.getElem?_eq_getElem (by omega)]; exact Option.some_ne_none _
  · exact h

theorem act_eventKept (hsc : sc ≠ .any) (h : Act sc s t) : EventKept sc s t := by
  cases h with
  | plain h => exact .of_eq (by rw [h])
  | endpoint n d a p => exact .of_eq (by rw [setEp_table])
  | copy sp a b _ hsp hb =>
    rcases hsp with rfl | rfl
    · exact ⟨rfl, rfl, rfl, rfl, rfl, id, fun _ => rfl, id, fun x hx => writeN_written a b hx⟩
    · exact .of_eq rfl
  | ringWrite h => exact .of_eq (by rw [ringWrite_rb h])
  | ringResize h => exact .of_eq (by rw [ringResize_rb h])
  | format f => exact ⟨rfl, rfl, rfl, rfl, rfl, id, fun _ => rfl, fun _ => Option.some_ne_none f, fun _ => id⟩
  | playback p _ _ hp =>
    exact ⟨rfl, rfl, rfl, rfl, rfl, fun h => absurd h (hp.resolve_left hsc), fun _ => rfl, id, fun _ => id⟩
  | channels ch _ hp => exact ⟨rfl, rfl, rfl, rfl, rfl, id, fun h => absurd h hp, id, fun _ => id⟩
  | ringRead hp => exact absurd hp hsc
  | store _ _ hp => exact absurd hp hsc
  | period _ _ hp => exact absurd hp hsc
  | context hp => exact absurd hp hsc
  | _ => exact .of_eq rfl

theorem configAct_eventKept (h : ConfigAct s t) : EventKept sc s t := by
  cases h with
  | enable h => exact .of_eq (by rw [enableEndpoint_table h])
  | disable n d => exact .of_eq (by rw [disableEndpoint_table])
  | _ => exact .of_eq rfl

theorem moves_eventKept (hsc : sc ≠ .any) (h : Relation.ReflTransGen (Move sc) s t) : EventKept sc s t :=
  run_related (A := Fine sc) (R := EventKept sc) EventKept.refl EventKept.trans
    (fun h => h.elim (act_eventKept hsc) configAct_eventKept) (moves_fine h)

end

/-! ## An iteration as micro-steps -/

theorem core_run_succ (M : Host.Core) {k : Nat} {s u : M.State} (h : M.step s = .next u) :
    M.run (k + 1) s = M.run k u := by
  simp only [Host.Core.run, h]

theorem run_after {k : Nat} {s t u : State} (h : step s = .next u) (hk : Sys2Proof.core.run k u = .next t) :
    Sys2Proof.core.run (k + 1) s = .next t := by
  exact (core_run_succ Sys2Proof.core h).trans hk

theorem run_one {s t : State} (h : step s = .next t) : Sys2Proof.core.run 1 s = .next t := run_after h rfl

/-- With nothing scheduled a step is a micro-step of the main loop. -/
theorem step_mainLoop {s : State} (h : s.schedule = []) : step s = (fetchMainLoop s).run := by
  rw [step_eq, fetch, h]

/-- The state with no event popped is the state. -/
theorem drain_empty {k : Nat} {s : State} (h : s.evq = []) : drain (k + 1) s = endIteration s := by
  have hp : pop s = (none, s) := by
    have hs : ({ s with evq := [] } : State) = s := by rw [← h]
    rw [pop, h]
    exact Prod.ext rfl hs
  rw [drain, hp]

theorem drain_event {k : Nat} {s : State} {e : UsbEvent} {rest : List UsbEvent} (h : s.evq = e :: rest) :
    drain (k + 1) s = afterEvent (handle e { s with evq := rest, eventsLeft := k }) (drain k) := by
  rw [drain, pop, h]
  rfl

/-- How an event ends in the main loop (R424). -/
theorem afterEvent_next {r : Res Unit} {k : State → Res Unit} {t : State} (h : (afterEvent r k).outcome = .next t) :
    ∃ u, r.outcome = .next u ∧ ((u.fatal = none ∧ (k u).outcome = .next t) ∨ (u.fatal ≠ none ∧ t = u)) := by
  cases r with
  | ok a u =>
    refine ⟨u, rfl, ?_⟩
    rw [afterEvent] at h
    split at h
    · next hf => exact .inl ⟨hf, h⟩
    · next hf => cases h; exact .inr ⟨hf, rfl⟩
  | ended u =>
    refine ⟨u, rfl, ?_⟩
    rw [afterEvent] at h
    split at h
    · next hf => exact .inl ⟨hf, h⟩
    · next hf => cases h; exact .inr ⟨hf, rfl⟩
  | fault f => cases h
  | refused e => cases h

/-- The rest of an iteration is at most one micro-step per event it may take, and one for the tick. -/
theorem drain_is_microSteps {k : Nat} {s t : State} (hf : s.fatal = none) (hs : s.schedule = [])
    (hk : s.eventsLeft = k) (h : (drain k s).outcome = .next t) : ∃ j ≤ k + 1, Sys2Proof.core.run j s = .next t := by
  induction k generalizing s with
  | zero =>
    rcases run_mainLoop_cases hf with ⟨_, _, _, -, hk', -⟩ | ⟨-, e⟩
    · omega
    · exact ⟨1, le_rfl, run_one (by rw [step_mainLoop hs, e]; exact h)⟩
  | succ k ih =>
    rcases run_mainLoop_cases hf with ⟨e, rest, k', hq, hk', er⟩ | ⟨hstop, er⟩
    · obtain rfl : k' = k := by omega
      rw [drain_event hq] at h
      obtain ⟨u, hu, hcase⟩ := afterEvent_next h
      have hstep : step s = .next u := by rw [step_mainLoop hs, er, hu]
      have hkept := moves_eventKept (sc := .payload) (by simp) ((handle_does e _ (.inr (by simp))).of_next hu)
      rcases hcase with ⟨hfu, hrest⟩ | ⟨-, rfl⟩
      · obtain ⟨j, hj, hrun⟩ := ih hfu (hkept.schedule.trans hs) hkept.eventsLeft hrest
        exact ⟨j + 1, by omega, run_after hstep hrun⟩
      · exact ⟨1, by omega, run_one hstep⟩
    · have hempty : s.evq = [] := hstop.resolve_right (by rw [hk]; exact Nat.succ_ne_zero k)
      rw [drain_empty hempty] at h
      exact ⟨1, by omega, run_one (by rw [step_mainLoop hs, er]; exact h)⟩

/-- Settles O7. -/
theorem iterateIsMicroSteps : Obligations.IterateIsMicroSteps := by
  intro s t hf hs hk h
  have h : (drain s.cfg.val.maxEventsPerIter s).outcome = .next t := (live_of_running hf _).symm.trans h
  exact drain_is_microSteps hf hs hk h

/-! ## One step of the schedule -/

/-- With the main loop to move, a step is its micro-step. -/
theorem step_of_mainLoop {s : State} (h : s.schedule = [] ∨ ∃ r, s.schedule = .mainLoop :: r) :
    step s = (fetchMainLoop { s with schedule := s.schedule.tail }).run := by
  rcases h with h | ⟨r, h⟩
  · have hs : { s with schedule := s.schedule.tail } = s := by rw [h, List.tail_nil, ← h]
    rw [hs, step_mainLoop h]
  · rw [step_eq, fetch, h]
    rfl

/-- Settles O4. -/
theorem stepRunsDecodedEvent : Obligations.StepRunsDecodedEvent := by
  intro s e rest k i hf hs hq hk hd
  rw [step_of_mainLoop hs, fetchMainLoop_event (s := { s with schedule := s.schedule.tail }) hf hq hk, fetchEvent]
  rw [show decodeEvent _ e = .ok i from hd]
  rfl

/-- A stimulus that runs no operation leaves the state its effect leaves. -/
theorem run_bind_ended {r : Res Unit} {t : State} (h : r = .ok () t) :
    (r.bind fun _ s => (.ended s : Res Instr)).run = .next t := by rw [h]; rfl

/-- An OUT store that is allowed, as R66 says it. -/
theorem storeAllowed_iff (s : State) (n : Fin 16) (b : Bytes) : storeAllowed s n b = true ↔
    (s.ep n .OUT).enabled = true ∧ ∃ a, (s.ep n .OUT).armed = some a ∧ a.noticed = false ∧ b.length ≤ a.length := by
  unfold storeAllowed
  cases (s.ep n .OUT).armed with
  | none => simp
  | some a => simp

theorem countStored_eq (n : Fin 16) (k : Nat) (s : State) :
    countStored n k s = { s with epOut := (countStored n k s).epOut } := by
  unfold countStored
  split <;> rfl

/-- Settles O5. -/
theorem stepRunsScheduled : Obligations.StepRunsScheduled := by
  refine ⟨fun s i r hs => ?_, fun s hf hs hstop => ?_, fun s n b r hf hs => ⟨fun h => ?_, ?_⟩, fun s k r hf hs => ?_⟩
  · rw [step_eq, fetch, hs]; rfl
  · rw [step_of_mainLoop hs, fetchMainLoop_tick (s := { s with schedule := s.schedule.tail }) hf hstop]; rfl
  · have hno : storeAllowed { s with schedule := r } n b = false := by
      rw [← Bool.not_eq_true, storeAllowed_iff]
      rintro ⟨he, a, ha, hn, hl⟩
      rcases h with h | h | ⟨a', ha', h⟩
      · exact Bool.false_ne_true (h.symm.trans he)
      · exact Option.some_ne_none a (ha.symm.trans h)
      · obtain rfl : a' = a := Option.some.inj (ha'.symm.trans ha)
        rcases h with h | h
        · exact Bool.false_ne_true (hn.symm.trans h)
        · omega
    rw [step_eq, fetch, hs]
    show ((storeOut n b { s with schedule := r }).bind _).run = _
    rw [storeOut, if_pos (by exact hf), hno]
    rfl
  · intro a he ha hn hl hroom
    have hok : storeAllowed { s with schedule := r } n b = true := (storeAllowed_iff _ n b).2 ⟨he, a, ha, hn, hl⟩
    have harm : ((s.ep n .OUT).armed.map fun x => { x with stored := max x.stored b.length }) =
        some { a with stored := max a.stored b.length } := by rw [ha]; rfl
    by_cases hn0 : n = 0
    · rw [if_pos hn0] at hroom
      have hst : storeOut n b { s with schedule := r } = .ok () (countStored n b.length
          (({ s with schedule := r } : State).setMem .ep0out (s.ep0out.writeN 0 b))) := by
        rw [storeOut, if_pos (by exact hf), hok, if_pos rfl, if_pos hn0, memWrite_ok (by simpa [State.spaceSize] using hroom)]
        rfl
      refine ⟨_, by rw [step_eq, fetch, hs]; exact run_bind_ended hst, by rw [countStored_eq]; rfl, fun m e => ?_,
        fun x => ?_, fun x => ?_⟩
      · rw [ep_countStored, ep_setMem]
        by_cases hme : m = n ∧ e = .OUT
        · rw [if_pos hme, if_pos hme]; exact congrArg (fun o => { s.ep n .OUT with armed := o }) harm
        · rw [if_neg hme, if_neg hme]; rfl
      · rw [countStored_eq, if_pos hn0]; exact read_writeN _ _ _ _
      · rw [countStored_eq, if_pos hn0]; rfl
    · rw [if_neg hn0] at hroom
      have hst : storeOut n b { s with schedule := r } = .ok () (countStored n b.length
          (({ s with schedule := r } : State).setMem .epbuf (s.epbuf.writeN (s.ep n .OUT).bufferAddress b))) := by
        rw [storeOut, if_pos (by exact hf), hok, if_pos rfl, if_neg hn0, memWrite_ok (by exact hroom)]
        rfl
      refine ⟨_, by rw [step_eq, fetch, hs]; exact run_bind_ended hst, by rw [countStored_eq]; rfl, fun m e => ?_,
        fun x => ?_, fun x => ?_⟩
      · rw [ep_countStored, ep_setMem]
        by_cases hme : m = n ∧ e = .OUT
        · rw [if_pos hme, if_pos hme]; exact congrArg (fun o => { s.ep n .OUT with armed := o }) harm
        · rw [if_neg hme, if_neg hme]; rfl
      · rw [countStored_eq, if_neg hn0]; rfl
      · rw [countStored_eq, if_neg hn0]; exact read_writeN _ _ _ _
  · rw [step_eq, fetch, hs]
    show ((setNextPeriod k { s with schedule := r }).bind _).run = _
    rw [setNextPeriod, if_pos (by exact hf)]
    by_cases hk : k = 0
    · rw [if_pos hk, if_pos hk]; rfl
    · rw [if_neg hk, if_neg hk]; rfl

/-! ## Reset -/

/-- Settles O8. -/
theorem resetValues : Obligations.ResetValues := by
  intro c
  refine ⟨rfl, rfl, rfl, rfl, rfl, rfl, rfl, fun i hi => ?_, rfl, rfl, rfl, fun d => ?_, fun n d hn => ?_, rfl, rfl, rfl,
    rfl, rfl, rfl, rfl, rfl, rfl, rfl, rfl, rfl, rfl, rfl, rfl, rfl⟩
  · exact List.getElem?_replicate_of_lt hi
  · rw [ep_resetOf, if_pos rfl]; exact ⟨rfl, rfl, rfl, rfl, rfl⟩
  · rw [ep_resetOf, if_neg hn]; exact ⟨rfl, rfl, rfl⟩

/-- Settles O9. -/
theorem resetSatisfiesInvariants : Obligations.ResetSatisfiesInvariants := by
  intro c
  obtain ⟨hcanon, hbounds⟩ := memoriesOk_iff.1 (resetOf_memories c)
  obtain ⟨hring, hfilled⟩ := resetOf_ring c
  obtain ⟨hrate, hfrac⟩ := rateAndFractions_iff.1 (resetOf_rate c)
  exact ⟨⟨hcanon, hbounds, hring, hfilled, Nat.zero_le _, hrate, hfrac, aligned_iff.1 (resetOf_aligned c), resetOf_alts c,
    fun h => absurd rfl h, Nat.le_refl 0⟩, usbReady_iff.2 (resetOf_served askFits c), (resetOf_contract c).2,
    fun x hx => by cases hx⟩

/-- Settles O10. -/
theorem resetPinResets : Obligations.ResetPinResets := fun _ => rfl

/-- Settles O1: the sample words by computation, every other length by R138. -/
theorem decodesSampleWords : Obligations.DecodesSampleWords := by
  refine ⟨rfl, rfl, rfl, rfl, rfl, rfl, rfl, rfl, fun c b hb => ?_⟩
  rw [decode, if_neg hb]

end Sys2Proof.Machine
end

section
set_option Elab.async false
/-! PROOFS. Transfers (spec/43_endpoint_manager.md R292), the data and status stages of a control transfer
(spec/41_control_staging.md) and the standard reads (spec/40_control_dispatch.md R174 to R177). -/

namespace Sys2Proof.Bits

/-! ## Little-endian words, byte by byte -/

theorem toLE16_eq (v : BitVec 16) : toLE16 v = [v.extractLsb' 0 8, v.extractLsb' 8 8] := by
  simp only [toLE16, toLE, List.cons.injEq, and_true]
  constructor <;> apply BitVec.eq_of_toNat_eq <;> simp [Nat.shiftRight_eq_div_pow]

theorem toLE32_eq (v : BitVec 32) : toLE32 v =
    [v.extractLsb' 0 8, v.extractLsb' 8 8, v.extractLsb' 16 8, v.extractLsb' 24 8] := by
  simp only [toLE32, toLE, List.cons.injEq, and_true]
  refine ⟨?_, ?_, ?_, ?_⟩ <;> apply BitVec.eq_of_toNat_eq <;>
    simp [Nat.shiftRight_eq_div_pow, Nat.div_div_eq_div_mul]

theorem le16_pair (x y : Byte) (r : Bytes) : le16 (x :: y :: r) = y ++ x := by
  apply BitVec.eq_of_toNat_eq
  have hx := x.isLt
  have hy := y.isLt
  simp only [le16, leNat, List.take_succ_cons, List.take_zero, BitVec.toNat_ofNat, BitVec.toNat_append,
    Nat.shiftLeft_eq, ← Nat.two_pow_add_eq_or_of_lt hx, Nat.mul_comm y.toNat]
  omega

theorem le32_quad (w x y z : Byte) (r : Bytes) : le32 (w :: x :: y :: z :: r) = z ++ y ++ x ++ w := by
  apply BitVec.eq_of_toNat_eq
  have hw := w.isLt
  have hx := x.isLt
  have hy := y.isLt
  have hz := z.isLt
  simp only [le32, leNat, List.take_succ_cons, List.take_zero, BitVec.toNat_ofNat, BitVec.toNat_append,
    Nat.shiftLeft_eq, Nat.mul_comm _ (2 ^ 8), ← Nat.two_pow_add_eq_or_of_lt hw, ← Nat.two_pow_add_eq_or_of_lt hx,
    ← Nat.two_pow_add_eq_or_of_lt hy]
  omega

end Sys2Proof.Bits

namespace Sys2Proof.Machine

/-! ## Transfers -/

section
variable {s : State} {n : Fin 16} {d : Dir} {buffer : Bytes} {length : Nat}

theorem startTransfer_refuses (h : (s.ep n d).enabled = false ∨ (s.ep n d).maxPacketSize < length) :
    startTransfer n d buffer length s = .ok false s := by
  rcases h with h | h
  · exact if_pos h
  · rw [startTransfer, if_pos h, ite_self]

/-- A transfer the endpoint can carry copies its buffer, then arms. -/
theorem startTransfer_carries (he : (s.ep n d).enabled = true) (hl : length ≤ (s.ep n d).maxPacketSize) :
    startTransfer n d buffer length s
      = (copyToEndpoint n d buffer length s).bind fun _ s => .ok true (armEndpoint n d length s) := by
  rw [startTransfer, if_neg (by simp [he]), if_neg (by omega)]

/-- Arming written out (43 R292). -/
theorem armEndpoint_in (s : State) (n : Fin 16) (length : Nat) : armEndpoint n .IN length s = { s with
    epIn := s.epIn.set n ((s.ep n .IN).afterArm length)
    trace := s.trace ++ [.hwArm n .IN length (s.ep n .IN).nextToggleBit] } := rfl

theorem armEndpoint_out (s : State) (n : Fin 16) (length : Nat) : armEndpoint n .OUT length s = { s with
    epOut := s.epOut.set n ((s.ep n .OUT).afterArm length)
    trace := s.trace ++ [.hwArm n .OUT length (s.ep n .OUT).nextToggleBit] } := rfl

theorem startTransfer_in0 (he : (s.ep 0 .IN).enabled = true) (hl : length ≤ (s.ep 0 .IN).maxPacketSize)
    (hb : length ≤ buffer.length) (h64 : length ≤ 64) :
    startTransfer 0 .IN buffer length s = .ok true { s with
      epIn := s.epIn.set 0 ((s.ep 0 .IN).afterArm length), ep0in := s.ep0in.writeN 0 (buffer.take length)
      trace := s.trace ++ [.hwArm 0 .IN length (s.ep 0 .IN).nextToggleBit] } := by
  have hfit : 0 + (buffer.take length).length ≤ s.spaceSize .ep0in := by
    simp only [List.length_take, State.spaceSize]
    omega
  rw [startTransfer_carries he hl, copyToEndpoint, if_neg (by omega), if_pos rfl, memWrite_ok hfit, bind_ok,
    armEndpoint_in]
  rfl

theorem startTransfer_in (hn : n ≠ 0) (he : (s.ep n .IN).enabled = true) (hl : length ≤ (s.ep n .IN).maxPacketSize)
    (hb : length ≤ buffer.length) (hfit : (s.ep n .IN).bufferAddress + length ≤ s.cfg.val.sharedCapacity) :
    startTransfer n .IN buffer length s = .ok true { s with
      epIn := s.epIn.set n ((s.ep n .IN).afterArm length)
      epbuf := s.epbuf.writeN (s.ep n .IN).bufferAddress (buffer.take length)
      trace := s.trace ++ [.hwArm n .IN length (s.ep n .IN).nextToggleBit] } := by
  have hfit : (s.ep n .IN).bufferAddress + (buffer.take length).length ≤ s.spaceSize .epbuf := by
    simp only [List.length_take, State.spaceSize]
    omega
  rw [startTransfer_carries he hl, copyToEndpoint, if_neg (by omega), if_neg hn, memWrite_ok hfit, bind_ok,
    armEndpoint_in]
  rfl

/-- One record of the endpoint table replaced, whatever else of the state. -/
theorem ep_of_epIn_set {t : State} {r : EpRecord} (hi : t.epIn = s.epIn.set n r) (ho : t.epOut = s.epOut)
    (m : Fin 16) (e : Dir) : t.ep m e = if m = n ∧ e = .IN then r else s.ep m e :=
  (ep_congr (s := s.setEp n .IN r) ho hi m e).trans (ep_setEp s n .IN r m e)

theorem ep_of_epOut_set {t : State} {r : EpRecord} (hi : t.epIn = s.epIn) (ho : t.epOut = s.epOut.set n r)
    (m : Fin 16) (e : Dir) : t.ep m e = if m = n ∧ e = .OUT then r else s.ep m e :=
  (ep_congr (s := s.setEp n .OUT r) ho hi m e).trans (ep_setEp s n .OUT r m e)

end

theorem flipPid_eq (p : Pid) : flipPid p = if p = .data0 then .data1 else .data0 := by cases p <;> rfl

/-- What an armed endpoint's record has become, written out (43 R292). -/
theorem afterArm_eq (r : EpRecord) (length : Nat) : r.afterArm length =
    { r with
      armed := some (.fresh length r.nextToggleBit)
      nextToggleBit := if r.nextToggleBit = .data0 then .data1 else .data0 } := by
  rw [EpRecord.afterArm, flipPid_eq]

/-- Settles O37. -/
theorem startTransferArms : Obligations.StartTransferArms := by
  intro s n d buffer length hf
  have hrun : exec (.startTransfer n d buffer length) s = ((startTransfer n d buffer length s).latch .bool).outcome :=
    live_of_running hf _
  rw [hrun]
  refine ⟨fun h => by rw [startTransfer_refuses h]; rfl, fun he hl hin => ?_⟩
  rw [← afterArm_eq]
  cases d with
  | OUT =>
    rw [startTransfer_out he hl, armEndpoint_out]
    exact ⟨_, rfl, rfl, ep_of_epOut_set rfl rfl, fun a => rfl, fun a => rfl⟩
  | IN =>
    obtain ⟨hb, hfit⟩ := hin rfl
    by_cases hn : n = 0
    · subst hn
      rw [startTransfer_in0 he hl hb hfit]
      exact ⟨_, rfl, rfl, ep_of_epIn_set rfl rfl, fun a => read_writeN s.ep0in 0 _ a, fun a => rfl⟩
    · rw [if_neg hn] at hfit
      rw [startTransfer_in hn he hl hb hfit]
      refine ⟨_, rfl, rfl, ep_of_epIn_set rfl rfl, fun a => ?_, fun a => ?_⟩
      · rw [if_neg (by simp [hn])]
      · rw [if_pos ⟨rfl, hn⟩]
        exact read_writeN s.epbuf _ _ a

/-! ## The data stage -/

theorem Ep0Ready.of_eq {s t : State} (h : Ep0Ready s) (hi : t.epIn = s.epIn) (ho : t.epOut = s.epOut) : Ep0Ready t :=
  ⟨by rw [hi]; exact h.inEnabled, by rw [hi]; exact h.inSize, by rw [ho]; exact h.outEnabled,
    by rw [ho]; exact h.outSize⟩

/-- SendNextChunk on a working endpoint 0: the next chunk copied and armed (41 R211). -/
theorem sendNextChunk_ok {s : State} {n : Nat} (hr : Ep0Ready s)
    (hn : n = min 64 (s.cts.totalLength - s.cts.sentLength)) (hl : s.cts.sentLength + n ≤ s.cts.sourceBuffer.length) :
    sendNextChunk s = .ok () { s with
      cts := { s.cts with lastLen := n }, epIn := s.epIn.set 0 (s.epIn[0].afterArm n)
      trace := s.trace ++ [.hwArm 0 .IN n s.epIn[0].nextToggleBit]
      ep0in := s.ep0in.writeN 0 ((s.cts.sourceBuffer.drop s.cts.sentLength).take n) } := by
  have h64 : n ≤ 64 := hn ▸ Nat.min_le_left _ _
  have hb : n ≤ (s.cts.sourceBuffer.drop s.cts.sentLength).length := by
    rw [List.length_drop]
    omega
  have hc : min Const.ep0MaxPacket (s.cts.totalLength - s.cts.sentLength) = n := hn.symm
  rw [sendNextChunk, hc, startTransfer_in0 hr.inEnabled (h64.trans hr.inSize.ge) hb h64]
  rfl

/-- CtrlInStart on a working endpoint 0: the data stage has begun (41 R210). -/
theorem ctrlInStart_ok {s : State} (hr : Ep0Ready s) {buf : Bytes} {len : Nat} (hl : len ≤ buf.length) :
    ∃ t, ctrlInStart buf len s = .ok () t ∧ DataStageStarted buf len s t := by
  have h := sendNextChunk_ok (n := min 64 len) (s := { s with cts := ⟨buf, len, 0, 0⟩, ctrlPhase := .dataIn })
    (hr.of_eq rfl rfl) rfl (by show 0 + min 64 len ≤ buf.length; omega)
  rw [ctrlInStart, if_neg (by omega), h]
  exact ⟨_, rfl, rfl, fun a => read_writeN s.ep0in 0 _ a⟩

/-- A reply is a data stage of its length, cut to `wLength` (42 R244). -/
theorem replyIn_ok {s : State} (hr : Ep0Ready s) (b : Bytes) (l : BitVec 16) :
    ∃ t, replyIn (some b) l s = .ok () t ∧ DataStageStarted b (min l.toNat b.length) s t :=
  ctrlInStart_ok hr (Nat.min_le_right _ _)

/-- The same of a row that is a reply, its bytes and their number spelled out. -/
theorem live_replyIn {s : State} (hf : s.fatal = none) (hr : Ep0Ready s) (l : BitVec 16) {b b' : Bytes} {k : Nat}
    (hb : b = b') (hk : b'.length = k) :
    ∃ t, live s (replyIn (some b) l s) = .next t ∧ DataStageStarted b' (min l.toNat k) s t := by
  subst hb hk
  obtain ⟨t, h, ht⟩ := replyIn_ok hr b l
  exact ⟨t, by rw [live_of_running hf, h]; rfl, ht⟩

/-- Settles O23. -/
theorem dataStageSendsChunks : Obligations.DataStageSendsChunks := by
  refine ⟨fun s buf len hf hr hl => ?_, fun s hf hr hl => ?_⟩
  · obtain ⟨t, h, ht⟩ := ctrlInStart_ok hr hl
    exact ⟨t, (live_of_running hf _).trans (by rw [h]; rfl), ht⟩
  · exact ⟨_, (live_of_running hf _).trans (by rw [sendNextChunk_ok hr rfl hl]; rfl), rfl,
      fun a => read_writeN s.ep0in 0 _ a⟩

theorem WfConfig.deviceDescriptor_length (c : WfConfig) : c.val.deviceDescriptor.length = 18 := by
  have h := c.ok
  simp only [Config.wf, Bool.and_eq_true, decide_eq_true_eq] at h
  obtain ⟨⟨-, h⟩, -⟩ : (_ ∧ c.val.deviceDescriptor.length = Const.deviceDescLen) ∧ True := by tauto
  exact h

/-- Settles O24. -/
theorem standardReadsReply : Obligations.StandardReadsReply := by
  intro s hf hr
  refine ⟨fun v i l => live_replyIn hf hr l rfl rfl, fun d i l => ?_, fun d i l => ?_,
    fun d i l => live_replyIn hf hr l rfl rfl⟩
  · obtain ⟨t, h, ht⟩ := ctrlInStart_ok (buf := s.cfg.val.deviceDescriptor) (len := min l.toNat 18) hr
      (by rw [WfConfig.deviceDescriptor_length]; exact Nat.min_le_right _ _)
    exact ⟨t, (live_of_running hf (getDescriptorDevice l s)).trans (by rw [getDescriptorDevice]; exact congrArg Res.outcome h), ht⟩
  · exact live_replyIn hf hr l rfl rfl

theorem freqRangeBlock_eq : freqRangeBlock =
    [0x04, 0x00]
      ++ [0x44, 0xAC, 0x00, 0x00, 0x44, 0xAC, 0x00, 0x00, 0x00, 0x00, 0x00, 0x00]
      ++ [0x80, 0xBB, 0x00, 0x00, 0x80, 0xBB, 0x00, 0x00, 0x00, 0x00, 0x00, 0x00]
      ++ [0x88, 0x58, 0x01, 0x00, 0x88, 0x58, 0x01, 0x00, 0x00, 0x00, 0x00, 0x00]
      ++ [0x00, 0x77, 0x01, 0x00, 0x00, 0x77, 0x01, 0x00, 0x00, 0x00, 0x00, 0x00] := by decide

/-- Settles O25: each read is the reply with its parameter block. -/
theorem audioControlReadsReply : Obligations.AudioControlReadsReply := by
  intro s hf hr
  refine ⟨fun ch l => live_replyIn hf hr l (Bits.toLE16_eq _) rfl, fun ch l => live_replyIn hf hr l rfl rfl,
    fun ch l => live_replyIn hf hr l (apply_ite (fun b => [b]) _ _ _).symm rfl, fun ch l => ?_,
    fun ch l => live_replyIn hf hr l (Bits.toLE32_eq _) rfl, fun ch l => live_replyIn hf hr l freqRangeBlock_eq rfl⟩
  have hx : exec (.getRangeMute ch l) s = live s (replyIn s.cfg.val.muteRangeReply l s) := rfl
  rw [hx]
  cases hm : s.cfg.val.muteRangeReply with
  | none => exact live_stall hf
  | some b => exact live_replyIn hf hr l rfl rfl

/-! ## The status stages -/

/-- Settles O32. -/
theorem addressIsDeferred : Obligations.AddressIsDeferred := by
  refine ⟨fun s hf he => ?_, fun s v i l hf he => ?_, fun s n hf hp => ?_⟩
  · exact (live_of_running hf _).trans (by rw [ack_eq_ok he]; rfl)
  · exact (live_of_running hf _).trans (congrArg Res.outcome (ack_eq_ok (s := { s with pendingAddress := _, addressPending := true }) he))
  · have h : exec (.ep0InDoneStatus n) s = (ep0InStatus s).outcome := selected_of hf (by simpa using hp) _
    rw [h, ep0InStatus, applyAddress]
    cases hp : s.addressPending with
    | true => rfl
    | false => simp [hp]

/-- Settles O33: `ep0InData` is the next chunk, the terminator or the status OUT. -/
theorem ep0InDataAdvances : Obligations.Ep0InDataAdvances := by
  intro s len hf hr hp hreply
  have hrun : exec (.ep0InDoneData len) s = (ep0InData s).outcome := selected_of hf (by simpa using hp) _
  have hlen : s.cts.totalLength ≤ s.cts.sourceBuffer.length := hreply
  refine ⟨fun hlt => ?_, fun hge h64 => ?_, fun hge h64 => ?_⟩ <;> rw [hrun, ep0InData]
  · have hchunk := sendNextChunk_ok (n := min 64 (s.cts.totalLength - (s.cts.sentLength + s.cts.lastLen)))
      (s := { s with cts := { s.cts with sentLength := s.cts.sentLength + s.cts.lastLen } }) (hr.of_eq rfl rfl) rfl
      (by dsimp only at hlt ⊢; omega)
    rw [if_pos hlt, hchunk]
    exact ⟨_, rfl, rfl, fun a => read_writeN s.ep0in 0 _ a⟩
  · rw [if_neg (by simpa using hge), if_pos (by exact h64), startTransfer_in0_empty (by exact hr.inEnabled)]
    rfl
  · rw [if_neg (by simpa using hge), if_neg (by exact h64), startTransfer_out]
    · simp [armEndpoint, emit, State.setToggle, State.setEp, State.ep, flipPid]
    · rw [ep_setToggle, if_pos ⟨rfl, rfl⟩]
      exact hr.outEnabled
    · simp

/-- Settles O35. -/
theorem ep0DoneFollowsPhase : Obligations.Ep0DoneFollowsPhase := by
  intro s n hf
  have hrun : ∀ d, exec (.ep0Done d n) s = (onEp0Done d n s).outcome := fun d => live_of_running hf _
  have hdata : s.ctrlPhase = .dataIn → exec (.ep0InDoneData n) s = (ep0InData s).outcome := fun h =>
    selected_of hf (by simpa using h) _
  have hstatus : s.ctrlPhase = .statusIn → exec (.ep0InDoneStatus n) s = (ep0InStatus s).outcome := fun h =>
    selected_of hf (by simpa using h) _
  have hout : s.ctrlPhase = .dataOut → exec (.ep0OutDoneData n) s = (ep0OutData n s).outcome := fun h =>
    selected_of hf (by simpa using h) _
  refine ⟨fun h => ?_, fun h => ?_, fun h => ?_, fun h => ?_, fun d hin hout => ?_⟩
  · simp [hrun, hdata h, onEp0Done, h]
  · simp [hrun, hstatus h, onEp0Done, h]
  · simp [hrun, hout h, onEp0Done, h]
  · simp [hrun, onEp0Done, h]
  · have hnone : onEp0Done d n s = .ok () s := by
      unfold onEp0Done
      split <;> simp_all
    rw [hrun, hnone]
    rfl

end Sys2Proof.Machine
end

section
set_option Elab.async false
/-! PROOFS. Class and vendor requests (spec/42_class_requests.md): replies, the captured payload, the Audio Control
setters and the volume round trip. -/

namespace Sys2Proof.Machine

/-! ## The handlers -/

section
variable {s : State} {p : SetupPacket} {b : Bytes} {ch : Chan}

/-- InvokeOutHandler answers where the slot has a handler (42 R248). -/
theorem invokeOutHandler_eq (h : s.cfg.val.hasOutHandler p.slot = true) :
    invokeOutHandler p b s = .ok (outAnswer p b s).1 (outAnswer p b s).2 := by
  by_cases hac : p.slot = s.cfg.val.acIf
  · simp only [invokeOutHandler, outAnswer, hac, outHandler_acIf, if_true]
  · obtain ⟨k, hk⟩ := outHandler_isSome h
    have hext : k = .external := by
      rw [outHandler, if_neg hac] at hk
      split_ifs at hk
      exact (Option.some.inj hk).symm
    simp only [invokeOutHandler, outAnswer, hk, hext, if_neg hac]

/-- An OUT handler writes no endpoint record. -/
theorem outAnswer_epIn : (outAnswer p b s).2.epIn = s.epIn := by
  unfold outAnswer
  split
  · rcases acOut_cases p b s with h | ⟨_, -, h⟩ | ⟨_, -, -, h⟩ <;> rw [h]
  · rfl

/-- The answer of a handler decides between the status stage and the stall (41 R215, 42 R245). -/
theorem outcome_answered (h : s.cfg.val.hasOutHandler p.slot = true) (he : s.epIn[0].enabled = true) :
    ((invokeOutHandler p b s).bind ackOrStall).outcome = .next (answered (outAnswer p b s)) := by
  rw [invokeOutHandler_eq h, bind_ok, outcome_ackOrStall (by show (outAnswer p b s).2.epIn[0].enabled = true
                                                             rw [outAnswer_epIn]
                                                             exact he)]
  rfl

/-- Every Audio Control setter refuses the empty payload (42 R245). -/
theorem acOut_nil : acOut p [] s = (false, s) := by
  rcases acOut_cases p [] s with h | ⟨_, h, -⟩ | ⟨_, h, -⟩
  · exact h
  · exact absurd rfl h
  · exact absurd rfl h

theorem acOut_volume (ht : p.type = Code.typeClass) (hq : p.request = Code.cur) (he : p.entity = s.cfg.val.fuId)
    (hv : p.valueHi = Code.fuVolume) (hl : p.valueLo = ch.byte) : acOut p b s = setVolume ch b s := by
  have hch := chan_byte_le ch
  simp only [acOut, ht, hq, he, hv, hl, hch, ne_eq, not_true_eq_false, or_self, if_false, and_self, if_true,
    chan_ofByte_byte]

theorem acOut_mute (ht : p.type = Code.typeClass) (hq : p.request = Code.cur) (he : p.entity = s.cfg.val.fuId)
    (hv : p.valueHi = Code.fuMute) (hl : p.valueLo = ch.byte) : acOut p b s = setMute ch b s := by
  have hch := chan_byte_le ch
  have hne : ¬Code.fuMute = Code.fuVolume := by decide
  simp only [acOut, ht, hq, he, hv, hl, hch, ne_eq, not_true_eq_false, or_self, if_false, and_self, if_true,
    chan_ofByte_byte, hne, false_and, and_false]

theorem acOut_freq (ht : p.type = Code.typeClass) (hq : p.request = Code.cur) (he : p.entity = s.cfg.val.clkId)
    (hv : p.valueHi = Code.csSamFreq) : acOut p b s = setFreq b s := by
  have hne : ¬s.cfg.val.clkId = s.cfg.val.fuId := fun h => s.cfg.units.2 h.symm
  simp only [acOut, ht, hq, he, hv, ne_eq, not_true_eq_false, or_self, if_false, hne, false_and, and_self, if_true]

/-- A request the Audio Control handler does not know sets nothing (42 R268). -/
theorem acOut_unknown
    (h : p.type ≠ Code.typeClass ∨ s.cfg.val.acKnows false p.request p.value p.entity = false) :
    acOut p b s = (false, s) := by
  have hch : p.valueLo.toNat ≤ 2 → ∃ ch : Chan, p.valueLo = ch.byte := fun hle => by
    cases hc : Chan.ofByte p.valueLo with
    | none => exact absurd hle (chan_ofByte_eq_none.1 hc)
    | some ch => exact ⟨ch, chan_ofByte_eq_some.1 hc⟩
  rw [← Bool.not_eq_true, acKnows_iff] at h
  unfold acOut
  split_ifs with ht hv hm hk
  · rfl
  · obtain ⟨ht, hq⟩ := not_or.1 ht
    exact absurd ⟨.inl (not_ne_iff.1 hq), .inl ⟨hv.1, .inl hv.2.1, hch hv.2.2⟩⟩ (h.resolve_left ht)
  · obtain ⟨ht, hq⟩ := not_or.1 ht
    exact absurd ⟨.inl (not_ne_iff.1 hq), .inl ⟨hm.1, .inr hm.2.1, hch hm.2.2⟩⟩ (h.resolve_left ht)
  · obtain ⟨ht, hq⟩ := not_or.1 ht
    exact absurd ⟨.inl (not_ne_iff.1 hq), .inr hk⟩ (h.resolve_left ht)
  · rfl

end

/-! ## IN requests -/

theorem classIn_answers {s : State} (hr : Ep0Ready s) (p : SetupPacket) :
    ∃ t, (classIn p s).outcome = .next t ∧ InAnswered p s t := by
  have hreply : ∀ (u : State) (r : Option Bytes), Ep0Ready u → ∃ t, (replyIn r p.length u).outcome = .next t ∧
      match r with
      | none => t = stalled u
      | some b => DataStageStarted b (min p.length.toNat b.length) u t := by
    intro u r hu
    cases r with
    | none => exact ⟨_, rfl, rfl⟩
    | some b =>
      obtain ⟨t, h, ht⟩ := replyIn_ok hu b p.length
      exact ⟨t, by rw [h]; rfl, ht⟩
  unfold classIn InAnswered inAnswer
  rcases inHandler s.cfg.val p.slot with _ | _ | _
  · exact ⟨_, rfl, rfl⟩
  · exact hreply s (acIn p s) hr
  · exact hreply { s with freeCount := s.freeCount + 1 } _ (hr.of_eq rfl rfl)

/-- Settles O26. -/
theorem classInReplies : Obligations.ClassInReplies := by
  intro s hf hr
  have h : ∀ p, ∃ t, live s (classIn p s) = .next t ∧ InAnswered p s t := fun p => by
    rw [live_of_running hf]
    exact classIn_answers hr p
  refine ⟨fun p hp => ?_, fun r v i l => h _, fun r v i l => h _⟩
  have hx : exec (.routeClass p) s = live s (classIn p s) := congrArg (live s) (if_pos hp)
  rw [hx]
  exact h p

/-! ## OUT requests -/

theorem classOut0_answers {s : State} (he : s.epIn[0].enabled = true) (p : SetupPacket) :
    ∃ t, (classOut0 p s).outcome = .next t ∧ Out0Answered p s t := by
  cases h : s.cfg.val.hasOutHandler p.slot with
  | false =>
    have hac : p.slot ≠ s.cfg.val.acIf := fun e => by simp [e, hasOutHandler_acIf] at h
    rw [classOut0, outHandler_eq_none h]
    exact ⟨_, rfl, fun _ => rfl, fun e => absurd e hac, fun k => absurd (h.symm.trans k) (by decide)⟩
  | true =>
    obtain ⟨k, hk⟩ := outHandler_isSome h
    rw [classOut0, hk]
    refine ⟨_, outcome_answered h he, fun k => absurd (h.symm.trans k) (by decide), fun e => ?_, fun _ _ => rfl⟩
    rw [outAnswer, if_pos e, acOut_nil]
    rfl

/-- Settles O27. -/
theorem classOutWithoutPayload : Obligations.ClassOutWithoutPayload := by
  intro s hf he
  have h : ∀ p, ∃ t, live s (classOut0 p s) = .next t ∧ Out0Answered p s t := fun p => by
    rw [live_of_running hf]
    exact classOut0_answers he p
  refine ⟨fun p hp hl => ?_, fun r v i => h _, fun r v i => h _⟩
  have hx : exec (.routeClass p) s = live s (classOut0 p s) :=
    congrArg (live s) ((if_neg (by simp [hp])).trans (if_pos hl))
  rw [hx]
  exact h p

/-- A payload of at most one packet is captured and armed (42 R246). -/
theorem armPayload_ok {s : State} (hr : Ep0Ready s) {p : SetupPacket} (hl : p.length.toNat ≤ 64) :
    armPayload p s = .ok () (payloadArmed p s) := by
  rw [armPayload, startTransfer_out (by exact hr.outEnabled) (by exact hl.trans hr.outSize.ge), armEndpoint_out]
  rfl

theorem classOut_captures {s : State} (hr : Ep0Ready s) (p : SetupPacket) :
    (classOut p s).outcome = .next (captured p s) := by
  unfold captured
  cases h : s.cfg.val.hasOutHandler p.slot with
  | false =>
    rw [classOut, outHandler_eq_none h]
    rfl
  | true =>
    obtain ⟨k, hk⟩ := outHandler_isSome h
    rw [classOut, hk, if_pos rfl]
    by_cases hl : 64 < p.length.toNat
    · rw [if_pos hl]
      exact congrArg Res.outcome (if_pos hl)
    · rw [if_neg hl]
      exact (congrArg Res.outcome ((if_neg hl).trans (armPayload_ok hr (by omega))))

/-- Settles O28. -/
theorem classOutArmsPayload : Obligations.ClassOutArmsPayload := by
  intro s hf hr
  have h : ∀ p, live s (classOut p s) = .next (captured p s) := fun p => by
    rw [live_of_running hf, classOut_captures hr]
  have hroute : ∀ p, p.length ≠ 0 → live s (routeOut p s) = .next (captured p s) := fun p hl => by
    rw [routeOut, if_neg hl, h]
  refine ⟨fun p hp hl => ?_, fun r v i l => h _, fun r v i l => h _, fun l hl =>
    ⟨fun ch => hroute _ hl, fun ch => hroute _ hl, fun ch => hroute _ hl, fun r v e => hroute _ hl⟩⟩
  have hx : exec (.routeClass p) s = live s (routeOut p s) := congrArg (live s) (if_neg (by simp [hp]))
  rw [hx, hroute p hl]

/-! ## The setters -/

theorem setVolume_pair (ch : Chan) (x y : Byte) (s : State) :
    setVolume ch [x, y] s = (true, s.setChannel ch { s.channel ch with volume := y ++ x }) := by
  rw [setVolume, if_pos (show [x, y].length = 2 from rfl), Bits.le16_pair]

/-- Settles O29. -/
theorem settersStore : Obligations.SettersStore := by
  intro s hf
  have hrun : ∀ r : Bool × State, live s (setterResult r) = .next { r.2 with ret := .bool r.1 } := fun r =>
    live_of_running hf _
  have hchan : ∀ (ch c : Chan) (x : ChannelControl) (r : RetVal),
      ({ s.setChannel ch x with ret := r } : State).channel c = if c = ch then x else s.channel c := by
    intro ch c x r
    rw [← channel_setChannel]
    cases c <;> rfl
  have hframe : ∀ (ch : Chan) (x : ChannelControl) (r : RetVal), ({ s.setChannel ch x with ret := r } : State)
      = { s with chan := (s.setChannel ch x).chan, ret := r } := fun ch x r => by cases ch <;> rfl
  refine ⟨fun ch x y => ⟨_, hrun (setVolume ch [x, y] s), ?_⟩, fun ch x => ⟨_, hrun (setMute ch [x] s), ?_⟩,
    fun ch w x y z => ?_, fun b => ⟨fun hb ch => ?_, fun hb ch => ?_, fun hb ch => ?_, fun r v e => hrun (false, s)⟩⟩
  · rw [setVolume_pair]
    exact ⟨hframe _ _ _, fun c => hchan ch c _ _⟩
  · exact ⟨hframe _ _ _, fun c => hchan ch c _ _⟩
  · refine (hrun (setFreq [w, x, y, z] s)).trans ?_
    have hmem : (z ++ y ++ x ++ w : BitVec 32).toNat ∈ Const.supportedRates ↔
        z ++ y ++ x ++ w = 44100#32 ∨ z ++ y ++ x ++ w = 48000#32 ∨ z ++ y ++ x ++ w = 88200#32 ∨
          z ++ y ++ x ++ w = 96000#32 := by
      simp [Const.supportedRates, BitVec.toNat_eq]
    rw [setFreq, Bits.le32_quad]
    by_cases hr : (z ++ y ++ x ++ w : BitVec 32).toNat ∈ Const.supportedRates
    · rw [if_pos ⟨rfl, hr⟩]
      exact congrArg _ (if_pos (hmem.1 hr)).symm
    · rw [if_neg fun h => hr h.2]
      exact congrArg _ (if_neg fun h => hr (hmem.2 h)).symm
  · refine (hrun (setVolume ch b s)).trans ?_
    rw [setVolume, if_neg hb]
  · refine (hrun (setMute ch b s)).trans ?_
    unfold setMute
    split
    · exact absurd rfl hb
    · rfl
  · refine (hrun (setFreq b s)).trans ?_
    rw [setFreq, if_neg fun h => hb h.1]

/-- Settles O30. -/
theorem invokeOutHandlerSelects : Obligations.InvokeOutHandlerSelects := by
  intro s b l hf
  have hac : ∀ {q : SetupPacket}, q.slot = s.cfg.val.acIf → invokeOutHandler q b s = .ok (acOut q b s).1 (acOut q b s).2 := by
    intro q hq
    rw [invokeOutHandler_eq (by rw [hq]; exact hasOutHandler_acIf _), outAnswer, if_pos hq]
  have hslot : ∀ r v e, (acPacket s.cfg.val false r v e l).slot = s.cfg.val.acIf := fun r v e => slotOf_mkField e _
  have hsel : ∀ {q : SetupPacket} {r : Bool × State}, q.slot = s.cfg.val.acIf → acOut q b s = r →
      exec (.invokeOutHandler q b) s = live s (setterResult r) := by
    intro q r hq hr
    exact congrArg (fun x : Res Bool => live s (x.latch .bool)) (by rw [hac hq, hr])
  refine ⟨fun ch => ?_, fun ch => ?_, fun ch => ?_, fun q hq h => ?_, fun q h hne => ?_, fun q h => ?_⟩
  · exact hsel (hslot _ _ _) (acOut_volume (type_mk ..) rfl (mkField_hi ..) (mkField_hi ..) (mkField_lo ..))
  · exact hsel (hslot _ _ _) (acOut_mute (type_mk ..) rfl (mkField_hi ..) (mkField_hi ..) (mkField_lo ..))
  · exact hsel (hslot _ _ _) (acOut_freq (type_mk ..) rfl (mkField_hi ..) (mkField_hi ..))
  · rw [hsel hq (acOut_unknown h), live_of_running hf]
    rfl
  · have hx : exec (.invokeOutHandler q b) s = ((invokeOutHandler q b s).latch .bool).outcome := live_of_running hf _
    rw [hx, invokeOutHandler_eq h, outAnswer, if_neg hne]
    rfl
  · have hx : exec (.invokeOutHandler q b) s = ((invokeOutHandler q b s).latch .bool).outcome := live_of_running hf _
    rw [hx, invokeOutHandler, outHandler_eq_none h]
    rfl

/-- Settles O31: the reply is read back from the channel the setter wrote. -/
theorem volumeRoundTrip : Obligations.VolumeRoundTrip := by
  intro s u t ch x y l hf hr hl hset hget
  obtain ⟨hfatal, hin, hout, hvol⟩ :
      u.fatal = none ∧ u.epIn = s.epIn ∧ u.epOut = s.epOut ∧ (u.channel ch).volume = y ++ x := by
    have h : exec (.setCurVolume ch (.payload [x, y])) s = (setterResult (setVolume ch [x, y] s)).outcome :=
      live_of_running hf _
    rw [h, setVolume_pair] at hset
    obtain rfl := Host.Outcome.next.inj hset
    refine ⟨by simpa using hf, by simp, by simp, ?_⟩
    cases ch <;> rfl
  have hreply : volumeReply ch u = [x, y] := by
    rw [volumeReply, hvol, Bits.toLE16_eq]
    exact congrArg₂ (fun a b => [a, b]) (mkField_lo y x) (mkField_hi y x)
  obtain ⟨w, hw, hframe, hread⟩ := live_replyIn (k := 2) hfatal (hr.of_eq hin hout) l hreply rfl
  obtain rfl : w = t := Host.Outcome.next.inj (hw.symm.trans hget)
  rw [Nat.min_eq_right hl] at hframe hread
  refine ⟨by rw [hframe]; rfl, by rw [hread]; rfl, by rw [hread]; rfl, ?_⟩
  rw [hframe]
  simp [dataStage, EpRecord.afterArm, hin]

/-! ## The payload delivered -/

theorem memRead_ok {sp : Space} {a n : Nat} {b : Bytes} {s : State} (h : a + n ≤ s.spaceSize sp)
    (hb : (s.mem sp).readN a n = some b) : memRead sp a n s = .ok b s := by
  rw [memRead, if_pos (.inr h), hb]

/-- The completion of a payload invokes the handler of the captured packet (41 R215). -/
theorem ep0OutData_eq {s : State} {len : Nat} {q : SetupPacket} {payload : Bytes} (hq : s.pendingOut = some q)
    (hl : len ≤ 64) (hb : s.ep0out.readN 0 len = some payload) :
    ep0OutData len s = (invokeOutHandler q payload { s with pendingOut := none }).bind ackOrStall := by
  rw [ep0OutData, memRead_ok (sp := .ep0out) (s := s) (by show 0 + len ≤ 64; omega) hb, bind_ok, hq]

/-- Settles O34. -/
theorem ep0OutDataInvokesHandler : Obligations.Ep0OutDataInvokesHandler := by
  intro s len q payload hf he hp hq hh hl hb
  have hrun : exec (.ep0OutDoneData len) s = (ep0OutData len s).outcome := selected_of hf (by simpa using hp) _
  rw [hrun, ep0OutData_eq hq hl hb]
  exact outcome_answered hh he

end Sys2Proof.Machine
end

section
set_option Elab.async false
/-! PROOFS. Endpoints and the configuration (spec/43_endpoint_manager.md): disabling and enabling lists of endpoints, the
alternate-setting switch, the deactivation and the bus reset (spec/48_event_queue.md R430). -/

namespace Sys2Proof.Machine

theorem ep_ret (s : State) (r : RetVal) (m : Fin 16) (e : Dir) : ({ s with ret := r } : State).ep m e = s.ep m e := by
  cases e <;> rfl

/-! ## Endpoints of one alternate setting are distinct -/

/-- Two items of one alternate setting are two endpoints (R10). -/
theorem endpointsOf_pairwise (c : WfConfig) (i a : Nat) :
    (endpointsOf c.val i a).Pairwise fun e f => (e.number, e.direction) ≠ (f.number, f.direction) := by
  rw [endpointsOf, List.pairwise_map, List.pairwise_filter]
  refine (items_facts c).2.2.imp fun {p q} h hp hq heq => (h heq).1 ?_
  simp only [Bool.and_eq_true, decide_eq_true_eq] at hp hq
  exact Prod.ext (BitVec.eq_of_toNat_eq (hp.1.trans hq.1.symm)) (BitVec.eq_of_toNat_eq (hp.2.trans hq.2.symm))

theorem endpointsOf_nodup (c : WfConfig) (i a : Nat) :
    ((endpointsOf c.val i a).map fun e => (e.number, e.direction)).Nodup :=
  List.pairwise_map.2 (endpointsOf_pairwise c i a)

/-- An endpoint has one item among the alternate settings of one number (R10). -/
theorem endpointsOf_unique (c : WfConfig) {i j a : Nat} {e f : EpItem} (he : e ∈ endpointsOf c.val i a)
    (hf : f ∈ endpointsOf c.val j a) (hn : e.number = f.number) (hd : e.direction = f.direction) : e = f := by
  obtain rfl := endpoint_interface c he hf hn hd
  exact List.inj_on_of_nodup_map (endpointsOf_nodup c i a) he hf (Prod.ext hn hd)

theorem nonControlEndpoints_nodup : nonControlEndpoints.Nodup := by decide

/-! ## Lists of endpoints disabled and enabled -/

/-- What disabling a list of distinct endpoints emits (43 R282). -/
theorem disableAll_trace {l : List (Fin 16 × Dir)} (hl : l.Nodup) (s : State) : (disableAll l s).trace =
    s.trace ++ (l.filter fun e => (s.ep e.1 e.2).enabled).map fun e => .hwDisableEndpoint e.1 e.2 := by
  induction l generalizing s with
  | nil => simp [disableAll]
  | cons x r ih =>
    obtain ⟨hx, hr⟩ := List.nodup_cons.1 hl
    have hrest : (r.filter fun e => ((disableEndpoint x.1 x.2 s).ep e.1 e.2).enabled)
        = r.filter fun e => (s.ep e.1 e.2).enabled := by
      refine List.filter_congr fun e he => ?_
      rw [ep_disableEndpoint, if_neg fun h : e.1 = x.1 ∧ e.2 = x.2 => hx ((Prod.ext h.1 h.2 : e = x) ▸ he)]
    rw [disableAll, ih hr, hrest, List.filter_cons, disableEndpoint]
    cases (s.ep x.1 x.2).enabled <;> simp

/-- The record of an enabled endpoint, its buffer where the layout puts it (43 R288). -/
def recordOf (lay : List (Nat × Nat)) (e : EpItem) : EpRecord :=
  ⟨e.type, e.maxPacketSize, (lay.lookup (addrOf e)).getD 0, .data0, true, none⟩

/-- The command that enables an endpoint (43 R288). -/
def enableCommand (lay : List (Nat × Nat)) (e : EpItem) : Cmd :=
  .hwEnableEndpoint e.number e.direction e.type ((lay.lookup (addrOf e)).getD 0)

/-- Every item of the list has its place in the layout. -/
def Laid (lay : List (Nat × Nat)) (l : List EpItem) : Prop := ∀ e ∈ l, (lay.lookup (addrOf e)).isSome

/-- `t` is `s` with the listed endpoints enabled. -/
structure Enabled (l : List EpItem) (s t : State) : Prop where
  rest   : t = { s with epOut := t.epOut, epIn := t.epIn, trace := s.trace ++ l.map (enableCommand s.bufLayout) }
  listed : ∀ e ∈ l, t.ep e.number e.direction = recordOf s.bufLayout e
  others : ∀ n d, ¬Listed l n d → t.ep n d = s.ep n d

theorem enableEndpoint_ok {e : EpItem} {s : State} {off : Nat} (h : layoutAt s (addrOf e) = some off) :
    enableEndpoint e s = .ok () (emit (.hwEnableEndpoint e.number e.direction e.type off)
      (s.setEp e.number e.direction ⟨e.type, e.maxPacketSize, off, .data0, true, none⟩)) := by
  rw [enableEndpoint, h]

theorem enableAll_enabled {l : List EpItem} {s : State} (hl : Laid s.bufLayout l)
    (hu : ∀ e ∈ l, ∀ f ∈ l, e.number = f.number → e.direction = f.direction → e = f) :
    ∃ t, enableAll l s = .ok () t ∧ Enabled l s t := by
  induction l generalizing s with
  | nil => exact ⟨s, rfl, by simp, by simp, fun _ _ _ => rfl⟩
  | cons x r ih =>
    obtain ⟨off, hoff⟩ := Option.isSome_iff_exists.1 (hl x List.mem_cons_self)
    have hget : (s.bufLayout.lookup (addrOf x)).getD 0 = off := by rw [hoff]; rfl
    obtain ⟨u, hun, htable, hx, hother⟩ : ∃ u, enableEndpoint x s = .ok () u ∧
        u = { s with epOut := u.epOut, epIn := u.epIn, trace := s.trace ++ [enableCommand s.bufLayout x] } ∧
        u.ep x.number x.direction = recordOf s.bufLayout x ∧
        ∀ n d, ¬(x.number = n ∧ x.direction = d) → u.ep n d = s.ep n d := by
      refine ⟨_, enableEndpoint_ok hoff, ?_, ?_, fun n d h => ?_⟩
      · rw [setEp_table, enableCommand, hget]
        rfl
      · rw [ep_emit, ep_setEp, if_pos ⟨rfl, rfl⟩, recordOf, hget]
      · rw [ep_emit, ep_setEp, if_neg fun k => h ⟨k.1.symm, k.2.symm⟩]
    have hlay : u.bufLayout = s.bufLayout := by rw [htable]
    have htrace : u.trace = s.trace ++ [enableCommand s.bufLayout x] := by rw [htable]
    obtain ⟨t, ht, hrest, hlisted, hothers⟩ := ih (s := u) (by rw [hlay]; exact fun e he => hl e (.tail _ he))
      fun e he f hf => hu e (.tail _ he) f (.tail _ hf)
    refine ⟨t, by rw [enableAll, hun, bind_ok, ht], ?_, fun e he => ?_, fun n d h => ?_⟩
    · rw [hlay, htrace, List.append_assoc] at hrest
      rw [hrest, htable]
      rfl
    · by_cases hr : Listed r e.number e.direction
      · obtain ⟨f, hf, hn, hd⟩ := hr
        obtain rfl := hu e he f (.tail _ hf) hn.symm hd.symm
        rw [hlisted e hf, hlay]
      · rcases List.mem_cons.1 he with rfl | he
        · rw [hothers _ _ hr, hx]
        · exact absurd ⟨e, he, rfl, rfl⟩ hr
    · rw [hothers n d fun ⟨f, hf, k⟩ => h ⟨f, .tail _ hf, k⟩]
      exact hother n d fun k => h ⟨x, List.mem_cons_self, k⟩

/-- The active configuration's layout has every endpoint of its list. -/
theorem laid_of_layout (c : Config) {l : List EpItem} (h : ∀ e ∈ l, e ∈ itemsOf c) : Laid (layoutOf c []).1 l :=
  fun e he => (lookup_layoutOf_isSome c [] (addrOf e)).2 (.inr ⟨e, h e he, rfl⟩)

/-- Settles O38. -/
theorem endpointsEnableAndDisable : Obligations.EndpointsEnableAndDisable := by
  refine ⟨fun s n d hf => ⟨_, live_of_running hf _, ?_, fun m e => ep_disableEndpoint n d s m e⟩,
    fun s e off hf h => ?_, fun s hf => ?_⟩
  · rw [disableEndpoint]
    cases (s.ep n d).enabled with
    | true => rw [if_pos rfl, setEp_table]; rfl
    | false => rw [if_neg (by decide), setEp_table]; simp
  · have hrun : exec (.enableEndpoint e) s = (enableEndpoint e s).outcome := live_of_running hf _
    rw [hrun, enableEndpoint_ok h]
    refine ⟨_, rfl, ?_, fun m d => ?_⟩
    · rw [setEp_table]; rfl
    · rw [ep_emit, ep_setEp]
  · have hrun : exec .computeLayout s = (computeLayout s).outcome := live_of_running hf _
    rw [hrun]
    rcases computeLayout_cases s with ⟨hfit, h⟩ | ⟨hbig, h⟩
    · rw [h, if_neg (by omega), ← hf]
      rfl
    · rw [h, if_pos hbig]
      rfl

/-! ## The alternate-setting switch -/

/-- The switch of an interface's alternate setting where it is made (43 R290). -/
theorem setAlternateSetting_ok {s : State} {i a : BitVec 16} (h0 : s.activeConfig ≠ 0)
    (ha : hasAlt s.cfg.val i.toNat a.toNat = true) (hl : LayoutKnown s) :
    let old := endpointsOf s.cfg.val i.toNat (altSettingOf s i.toNat).toNat
    let new := endpointsOf s.cfg.val i.toNat a.toNat
    ∃ t, setAlternateSetting i a s = .ok true t ∧
      t = { s with
        epOut := t.epOut, epIn := t.epIn, altSetting := s.altSetting.set i.toNat (a.setWidth 8)
        trace := s.trace
          ++ (old.filter fun e => (s.ep e.number e.direction).enabled).map
              (fun e => .hwDisableEndpoint e.number e.direction)
          ++ new.map (enableCommand s.bufLayout) } ∧
      (∀ e ∈ new, t.ep e.number e.direction = recordOf s.bufLayout e) ∧
      (∀ n d, ¬Listed new n d → t.ep n d = if ∃ e ∈ old, e.number = n ∧ e.direction = d then
        { s.ep n d with enabled := false, armed := none } else s.ep n d) := by
  intro old new
  have hdis := disableAll_trace (endpointsOf_nodup s.cfg i.toNat (altSettingOf s i.toNat).toNat) s
  have hep := ep_disableAll (old.map fun e => (e.number, e.direction)) s
  have htab := disableAll_table (old.map fun e => (e.number, e.direction)) s
  rw [List.filter_map, List.map_map] at hdis
  have hrun : setAlternateSetting i a s
      = (enableAll new (disableAll (old.map fun e => (e.number, e.direction)) s)).bind
          fun _ u => .ok true { u with altSetting := u.altSetting.set i.toNat (a.setWidth 8) } := by
    rw [setAlternateSetting, if_neg h0, if_neg (by simp [ha])]
  rw [hrun]
  generalize disableAll (old.map fun e => (e.number, e.direction)) s = u at hdis hep htab ⊢
  have hlay : u.bufLayout = (layoutOf s.cfg.val []).1 := by rw [htab]; exact (hl h0).1
  obtain ⟨v, hv, hrest, hlisted, hothers⟩ := enableAll_enabled (s := u) (l := new)
    (by rw [hlay]; exact laid_of_layout _ fun e he => mem_itemsOf he)
    fun e he f hf => endpointsOf_unique s.cfg he hf
  have hlay' : u.bufLayout = s.bufLayout := by rw [htab]
  refine ⟨_, by rw [hv, bind_ok], ?_, fun e he => ?_, fun n d hn => ?_⟩
  · rw [hlay', hdis] at hrest
    rw [hrest, htab]
    rfl
  · rw [← hlay', ← hlisted e he]
    exact ep_congr rfl rfl _ _
  · refine (ep_congr rfl rfl n d).trans ((hothers n d hn).trans ((hep n d).trans ?_))
    exact if_congr mem_endpoints_of_items rfl rfl

/-- Settles O39. -/
theorem alternateSettingSwitches : Obligations.AlternateSettingSwitches := by
  intro s i a hf
  have hrun : exec (.setAlternateSetting i a) s = ((setAlternateSetting i a s).latch .bool).outcome :=
    live_of_running hf _
  rw [hrun]
  refine ⟨fun h => ?_, fun h0 ha hl => ?_⟩
  · have hfail : setAlternateSetting i a s = .ok false s := by
      rcases h with h | h
      · exact if_pos h
      · rw [setAlternateSetting, if_pos h, ite_self]
    rw [hfail]
    rfl
  · obtain ⟨t, ht, hrest, hlisted, hothers⟩ := setAlternateSetting_ok h0 ha hl
    rw [ht]
    refine ⟨_, rfl, ?_, fun e he => ?_, fun n d hn => ?_⟩
    · rw [hrest]
      rfl
    · have hlaid := laid_of_layout s.cfg.val (fun e he => mem_itemsOf he) e he
      rw [← (hl h0).1] at hlaid
      obtain ⟨off, hoff⟩ := Option.isSome_iff_exists.1 hlaid
      refine ⟨off, hoff, (ep_ret t _ _ _).trans ((hlisted e he).trans ?_)⟩
      rw [recordOf, hoff]
      rfl
    · exact (ep_ret t _ n d).trans (hothers n d fun ⟨e, he, k⟩ => hn e he k)

/-! ## Deactivation and the bus reset -/

/-- The frame of a deactivation, and its commands (43 R284). -/
theorem deactivate_eq (s : State) : deactivate s = { s with
    epOut := (deactivate s).epOut, epIn := (deactivate s).epIn, bufLayout := []
    altSetting := s.altSetting.map fun _ => 0, activeConfig := 0, trace := s.trace ++ disableCommands s } := by
  have htab := disableAll_table nonControlEndpoints s
  rw [disableAll_trace nonControlEndpoints_nodup] at htab
  rw [deactivate]
  generalize disableAll nonControlEndpoints s = u at htab ⊢
  rw [htab]
  rfl

theorem SameAudio.trans {s t u : State} (h : SameAudio s t) (k : SameAudio t u) : SameAudio s u :=
  ⟨k.chan.trans h.chan, k.sampleRate.trans h.sampleRate, k.format.trans h.format, k.rb.trans h.rb,
    k.pstate.trans h.pstate, k.steadyFill.trans h.steadyFill, k.filtered.trans h.filtered,
    k.bufferReady.trans h.bufferReady, k.outputRunning.trans h.outputRunning, k.ledFast.trans h.ledFast,
    k.periodFrames.trans h.periodFrames, k.hwbuf.trans h.hwbuf⟩

theorem SameMachine.trans {s t u : State} (h : SameMachine s t) (k : SameMachine t u) : SameMachine s u :=
  ⟨k.cfg.trans h.cfg, k.fatal.trans h.fatal, k.evq.trans h.evq, k.schedule.trans h.schedule,
    k.nextPeriod.trans h.nextPeriod, k.eventsLeft.trans h.eventsLeft, k.freeCount.trans h.freeCount⟩

theorem deactivated (s : State) : Deactivated s (deactivate s) ∧ (∀ d, (deactivate s).ep 0 d = s.ep 0 d) ∧
    SameControl s (deactivate s) := by
  have hep := ep_deactivate s
  have hrest := deactivate_eq s
  generalize deactivate s = u at hep hrest ⊢
  refine ⟨⟨fun n d hn => by rw [hep, if_neg hn], ?_, ?_, ?_, ?_, ⟨?_, ?_, ?_, ?_, ?_, ?_, ?_, ?_, ?_, ?_, ?_, ?_⟩,
    ⟨?_, ?_, ?_, ?_, ?_, ?_, ?_⟩⟩, fun d => by rw [hep, if_pos rfl], ⟨?_, ?_, ?_, ?_, ?_, ?_, ?_, ?_⟩⟩ <;> rw [hrest]

theorem ep_resetUsb (s : State) (n : Fin 16) (d : Dir) : (resetUsb s).ep n d =
    if n = 0 then { s.ep 0 d with armed := none, nextToggleBit := .data0 } else s.ep n d := by
  have h : ∀ u : State, (((u.disarm 0 .IN).setToggle 0 .IN .data0).disarm 0 .OUT |>.setToggle 0 .OUT .data0).ep n d =
      if n = 0 then { u.ep 0 d with armed := none, nextToggleBit := .data0 } else u.ep n d := by
    intro u
    by_cases hn : n = 0
    · subst hn
      cases d <;> simp
    · simp [hn]
  refine (h _).trans ?_
  cases d <;> rfl

theorem resetUsb_eq (s : State) : resetUsb s = { s with
    deviceAddress := 0, pendingAddress := 0, addressPending := false, pendingOut := none, ep0Stalled := false
    ctrlPhase := .idle, epOut := (resetUsb s).epOut, epIn := (resetUsb s).epIn
    trace := s.trace ++ [.hwSetAddress 0] } := rfl

theorem busReset_eq (s : State) : busReset s = .ok () (deactivate (resetUsb s)) := by
  rw [busReset, activateConfiguration, if_neg (by simp), if_pos rfl]
  rfl

/-- Settles O45. -/
theorem busResetUnconfigures : Obligations.BusResetUnconfigures := by
  intro s hf
  have hrun : live s (busReset s) = .next (deactivate (resetUsb s)) := by
    rw [live_of_running hf, busReset_eq]
    rfl
  obtain ⟨hd, h0, hc⟩ := deactivated (resetUsb s)
  have htrace : (deactivate (resetUsb s)).trace = (resetUsb s).trace ++ disableCommands (resetUsb s) := by
    rw [deactivate_eq]
  have hphase : (deactivate (resetUsb s)).ctrlPhase = (resetUsb s).ctrlPhase ∧
      (deactivate (resetUsb s)).pendingOut = (resetUsb s).pendingOut ∧
      (deactivate (resetUsb s)).ret = (resetUsb s).ret := by
    rw [deactivate_eq]
    exact ⟨rfl, rfl, rfl⟩
  have hep := ep_resetUsb s
  have hcmd : disableCommands (resetUsb s) = disableCommands s := by
    unfold disableCommands
    refine congrArg _ (List.filter_congr fun e he => ?_)
    rw [hep, if_neg (nonControlEndpoints_ne_zero e he)]
  have hrest := resetUsb_eq s
  generalize resetUsb s = r at hd h0 hc htrace hphase hep hcmd hrest hrun
  refine ⟨deactivate r, hrun, hrun, ?_⟩
  generalize deactivate r = t at hd h0 hc htrace hphase
  obtain ⟨hphase, hpending, hret⟩ := hphase
  obtain ⟨hothers, hlayout, halts, hconfig, hepbuf, haudio, hmachine⟩ := hd
  refine ⟨by rw [hc.deviceAddress, hrest], by rw [hc.pendingAddress, hrest], by rw [hc.addressPending, hrest],
    by rw [hpending, hrest], by rw [hc.ep0Stalled, hrest], by rw [hphase, hrest], fun d => ?_,
    ⟨fun n d hn => ?_, hlayout, ?_, hconfig, ?_, ?_, ?_⟩, by rw [hc.setup, hrest], by rw [hc.cts, hrest],
    by rw [hc.ep0in, hrest], by rw [hc.ep0out, hrest], by rw [hret, hrest], ?_⟩
  · rw [h0, hep, if_pos rfl]
  · rw [hothers n d hn, hep, if_neg hn]
  · rw [halts, hrest]
  · rw [hepbuf, hrest]
  · exact SameAudio.trans (by constructor <;> rw [hrest]) haudio
  · exact SameMachine.trans (by constructor <;> rw [hrest]) hmachine
  · rw [htrace, hcmd, hrest]

end Sys2Proof.Machine
end

section
set_option Elab.async false
/-! PROOFS. The activation of a configuration (spec/43_endpoint_manager.md R284): the walk over its interfaces. -/

namespace Sys2Proof.Machine

/-! ## Callbacks of alternate setting 0 -/

theorem WfConfig.asIf_lt (c : WfConfig) : c.val.asIf.toNat < c.val.nIfSlots := by
  have h := c.ok
  simp only [Config.wf, Bool.and_eq_true, decide_eq_true_eq] at h
  tauto

theorem toNat_setWidth16 (i : Byte) : (i.setWidth 16).toNat = i.toNat := by
  have h := i.isLt
  rw [BitVec.toNat_setWidth]
  omega

/-- The streaming interface's callback is the built-in one, no other's is (10 R28). -/
theorem setIfCallback_streaming (c : WfConfig) (i : Byte) :
    setIfCallback c.val (i.setWidth 16) = some .audioStreaming ↔ i = c.val.asIf := by
  rw [setIfCallback, toNat_setWidth16, ← BitVec.toNat_inj]
  constructor
  · intro h
    split_ifs at h with h1 h2
    · exact h2
    · cases h
  · intro h
    rw [if_neg (by rw [h]; exact Nat.not_le.2 (WfConfig.asIf_lt c)), if_pos h]

/-- How a callback of alternate setting 0 ends: the streaming one stops the stream, an external one draws its answer
(43 R284, 45 R350). -/
theorem invokeCallback_zero_eq (c : WfConfig) (i : Byte) {s : State} (hc : s.cfg = c) :
    ∃ ok, invokeCallback (i.setWidth 16) 0 s = .ok ok { s with
        pstate := if i = c.val.asIf then .stopped else s.pstate
        outputRunning := if i = c.val.asIf then false else s.outputRunning
        trace := s.trace ++ if i = c.val.asIf then [.drvStop] else []
        freeCount := s.freeCount + (externalCallbacks c.val [i]).length } ∧
      ok = if setIfCallback c.val (i.setWidth 16) = some .external then Config.extSetIf s.freeCount i 0 else true := by
  subst hc
  have hwidth : (i.setWidth 16).setWidth 8 = i := by
    apply BitVec.eq_of_toNat_eq
    have h := i.isLt
    rw [BitVec.toNat_setWidth, toNat_setWidth16]
    omega
  have hs := setIfCallback_streaming s.cfg i
  rw [invokeCallback, externalCallbacks, List.filter_cons, List.filter_nil]
  rcases h : setIfCallback s.cfg.val (i.setWidth 16) with _ | _ | _ <;> rw [h] at hs
  · have hne : i ≠ s.cfg.val.asIf := fun e => by simpa using hs.2 e
    exact ⟨_, by simp [hne], rfl⟩
  · have he : i = s.cfg.val.asIf := hs.1 rfl
    refine ⟨true, ?_, rfl⟩
    simp only [he, if_true]
    rfl
  · have hne : i ≠ s.cfg.val.asIf := fun e => by simpa using hs.2 e
    refine ⟨_, ?_, rfl⟩
    simp [hne, hwidth]

/-! ## The walk -/

/-- The walk from `s` over the interfaces of `l` has activated `done` and ended with `b` in `t`. -/
structure Walked (c : Config) (l done : List Byte) (b : Bool) (s t : State) : Prop where
  begins  : done <+: l
  whole   : b = true → done = l
  last    : b = false → ∃ i, done.getLast? = some i ∧ (externalCallbacks c done).getLast? = some i
  answers : ∀ j i, (externalCallbacks c done)[j]? = some i →
    Config.extSetIf (s.freeCount + j) i 0 = (b || decide (j + 1 < (externalCallbacks c done).length))
  rest    : t = { s with
    epOut := t.epOut, epIn := t.epIn, freeCount := s.freeCount + (externalCallbacks c done).length
    pstate := if c.asIf ∈ done then .stopped else s.pstate
    outputRunning := if c.asIf ∈ done then false else s.outputRunning
    trace := s.trace ++ done.flatMap (activationCommands c) }
  listed  : ∀ i ∈ done, ∀ e ∈ endpointsOf c i.toNat 0, t.ep e.number e.direction = recordOf (layoutOf c []).1 e
  others  : ∀ n d, (∀ i ∈ done, ¬Listed (endpointsOf c i.toNat 0) n d) → t.ep n d = s.ep n d

theorem externalCallbacks_cons (c : Config) (i : Byte) (r : List Byte) :
    externalCallbacks c (i :: r) = externalCallbacks c [i] ++ externalCallbacks c r := by
  rw [externalCallbacks, externalCallbacks, externalCallbacks, ← List.filter_append, List.singleton_append]

theorem externalCallbacks_single (c : Config) (i : Byte) : externalCallbacks c [i] =
    if setIfCallback c (i.setWidth 16) = some .external then [i] else [] := by
  simp [externalCallbacks, List.filter_cons]

/-- An interface whose callback succeeded is followed by the rest of the walk. -/
theorem Walked.cons {c : WfConfig} {i : Byte} {r done : List Byte} {b : Bool} {s u v t : State}
    (hcall : setIfCallback c.val (i.setWidth 16) = some .external → Config.extSetIf s.freeCount i 0 = true)
    (hu : Enabled (endpointsOf c.val i.toNat 0) s u) (hlay : s.bufLayout = (layoutOf c.val []).1)
    (hv : v = { u with
        pstate := if i = c.val.asIf then .stopped else u.pstate
        outputRunning := if i = c.val.asIf then false else u.outputRunning
        trace := u.trace ++ if i = c.val.asIf then [.drvStop] else []
        freeCount := u.freeCount + (externalCallbacks c.val [i]).length })
    (h : Walked c.val r done b v t) : Walked c.val (i :: r) (i :: done) b s t := by
  have hep : ∀ n d, v.ep n d = u.ep n d := fun n d => by rw [hv]; exact ep_congr rfl rfl n d
  have hfree : v.freeCount = s.freeCount + (externalCallbacks c.val [i]).length := by rw [hv, hu.rest]
  have hx := externalCallbacks_cons c.val i done
  have hs := externalCallbacks_single c.val i
  refine ⟨List.cons_prefix_cons.2 ⟨rfl, h.begins⟩, fun hb => by rw [h.whole hb], fun hb => ?_, fun j k hj => ?_, ?_,
    fun k hk e he => ?_, fun n d hn => ?_⟩
  · obtain ⟨k, hd, ha⟩ := h.last hb
    exact ⟨k, by rw [List.getLast?_cons, hd]; rfl, by rw [hx, List.getLast?_append, ha]; rfl⟩
  · have hlast : b = false → 0 < (externalCallbacks c.val done).length := fun hb => by
      obtain ⟨k, -, ha⟩ := h.last hb
      exact List.length_pos_of_ne_nil fun e => by simp [e] at ha
    rw [hx] at hj ⊢
    by_cases hext : setIfCallback c.val (i.setWidth 16) = some .external
    · rw [if_pos hext] at hs
      rw [hs] at hj hfree ⊢
      cases j with
      | zero =>
        obtain rfl : i = k := by simpa using hj
        rw [Nat.add_zero, hcall hext]
        cases b with
        | true => rfl
        | false => simpa using hlast rfl
      | succ j =>
        have ha := h.answers j k (by simpa using hj)
        rw [hfree] at ha
        have hlt : j + 1 + 1 < ([i] ++ externalCallbacks c.val done).length ↔
            j + 1 < (externalCallbacks c.val done).length := by
          rw [List.length_append, List.length_singleton]
          omega
        rw [decide_eq_decide.2 hlt, ← ha, List.length_singleton]
        congr 1
        omega
    · rw [if_neg hext] at hs
      rw [hs] at hj hfree ⊢
      have ha := h.answers j k hj
      rw [hfree] at ha
      exact ha
  · have hcmd : activationCommands c.val i = (endpointsOf c.val i.toNat 0).map (enableCommand s.bufLayout)
        ++ if i = c.val.asIf then [.drvStop] else [] := by rw [hlay]; rfl
    have hp : ∀ {α : Type} (x y : α), (if c.val.asIf ∈ done then x else if i = c.val.asIf then x else y)
        = if c.val.asIf ∈ i :: done then x else y := by
      intro α x y
      by_cases h1 : c.val.asIf ∈ done
      · simp [h1]
      · by_cases h2 : i = c.val.asIf
        · simp [h2]
        · simp [h1, h2, Ne.symm h2]
    have hrest := h.rest
    rw [hv, hu.rest] at hrest
    dsimp only at hrest
    rw [hp, hp] at hrest
    rw [hrest, hx, List.length_append, List.flatMap_cons, hcmd]
    simp only [List.append_assoc, Nat.add_assoc]
  · by_cases hl : ∃ j ∈ done, Listed (endpointsOf c.val j.toNat 0) e.number e.direction
    · obtain ⟨j, hj, f, hf, hn, hd⟩ := hl
      obtain rfl := endpointsOf_unique c he hf hn.symm hd.symm
      exact h.listed j hj e hf
    · have hki : k = i := (List.mem_cons.1 hk).resolve_right fun hk => hl ⟨k, hk, e, he, rfl, rfl⟩
      rw [h.others _ _ fun j hj hl' => hl ⟨j, hj, hl'⟩, hep, hu.listed e (hki ▸ he), hlay]
  · rw [h.others n d fun j hj => hn j (.tail _ hj), hep, hu.others n d (hn i List.mem_cons_self)]

/-- The walk over a list of interfaces ends with a result (43 R284). -/
theorem activateInterfaces_walks (c : WfConfig) (l : List Byte) {s : State} (hc : s.cfg = c)
    (hlay : s.bufLayout = (layoutOf c.val []).1) :
    ∃ t done b, activateInterfaces l s = .ok b t ∧ Walked c.val l done b s t := by
  induction l generalizing s with
  | nil =>
    refine ⟨s, [], true, rfl, List.nil_prefix, fun _ => rfl, fun h => (by cases h), fun j i h => (by cases h), ?_,
      fun i hi => (by cases hi), fun n d _ => rfl⟩
    simp [externalCallbacks]
  | cons i r ih =>
    obtain ⟨u, hrun, hu⟩ := enableAll_enabled (s := s) (l := endpointsOf c.val i.toNat 0)
      (by rw [hlay]; exact laid_of_layout _ fun e he => mem_itemsOf he)
      fun e he f hf => endpointsOf_unique c he hf
    have hcu : u.cfg = c := by rw [hu.rest]; exact hc
    obtain ⟨ok, hcall, hok⟩ := invokeCallback_zero_eq c i hcu
    have hfree : u.freeCount = s.freeCount := by rw [hu.rest]
    generalize hv : ({ u with
        pstate := if i = c.val.asIf then .stopped else u.pstate
        outputRunning := if i = c.val.asIf then false else u.outputRunning
        trace := u.trace ++ if i = c.val.asIf then [.drvStop] else []
        freeCount := u.freeCount + (externalCallbacks c.val [i]).length } : State) = v at hcall
    have hstart : activateInterfaces (i :: r) s = if ok then activateInterfaces r v else .ok false v := by
      rw [activateInterfaces, hc, hrun, bind_ok, hcall, bind_ok]
    rw [hstart]
    have hanswer : setIfCallback c.val (i.setWidth 16) = some .external → Config.extSetIf s.freeCount i 0 = ok :=
      fun h => by rw [hok, if_pos h, hfree]
    cases ok with
    | true =>
      obtain ⟨t, done, b, ht, hw⟩ := ih (s := v) (by rw [← hv]; exact hcu) (by rw [← hv, hu.rest]; exact hlay)
      exact ⟨t, i :: done, b, by rw [if_pos rfl, ht], hw.cons hanswer hu hlay hv.symm⟩
    | false =>
      have hext : setIfCallback c.val (i.setWidth 16) = some .external := by
        by_contra h
        rw [if_neg h] at hok
        cases hok
      have hsingle : externalCallbacks c.val [i] = [i] := by rw [externalCallbacks_single, if_pos hext]
      have hne : ¬i = c.val.asIf := fun e => by rw [(setIfCallback_streaming c i).2 e] at hext; cases hext
      refine ⟨v, [i], false, by simp, ⟨r, rfl⟩, fun h => (by cases h), fun _ => ⟨i, rfl, by rw [hsingle]; rfl⟩,
        fun j k hj => ?_, ?_, fun k hk e he => ?_, fun n d hn => ?_⟩
      · rw [hsingle] at hj ⊢
        cases j with
        | zero =>
          obtain rfl : i = k := by simpa using hj
          exact hanswer hext
        | succ j => simp at hj
      · have hmem : c.val.asIf ∉ [i] := fun h => hne (List.mem_singleton.1 h).symm
        rw [if_neg hmem, if_neg hmem, List.flatMap_singleton, activationCommands, if_neg hne, ← hlay, ← hv, if_neg hne,
          if_neg hne, if_neg hne, hu.rest, List.append_nil, List.append_nil]
        rfl
      · obtain rfl : k = i := by simpa using hk
        rw [← hv, ← hlay]
        exact (ep_congr rfl rfl _ _).trans (hu.listed e he)
      · rw [← hv]
        exact (ep_congr rfl rfl _ _).trans (hu.others n d (hn i (by simp)))

/-! ## The activation -/

/-- Without external callbacks the walk succeeds (43 R284). -/
theorem Walked.succeeds {c : Config} {l done : List Byte} {b : Bool} {s t : State} (h : Walked c l done b s t)
    (hx : NoExternalCallback c) : b = true := by
  cases b with
  | true => rfl
  | false =>
    obtain ⟨i, -, hi⟩ := h.last rfl
    have hext : setIfCallback c (i.setWidth 16) = some .external := by
      simpa [externalCallbacks] using (List.mem_filter.1 (List.mem_of_getLast? hi)).2
    rw [setIfCallback] at hext
    split_ifs at hext with h1 h2 h3
    · cases hext
    · obtain ⟨x, hxm, hset⟩ := List.any_eq_true.1 h3
      rw [Bool.and_eq_true, hx x hxm] at hset
      exact absurd hset.2 (by decide)

/-- The activation up to its walk: nothing enabled, the configuration's layout known. -/
theorem activateConfiguration_layout {s : State} {n : Byte} (hn : n ≠ 0) (hv : n = s.cfg.val.configValue) :
    let u := { deactivate s with bufLayout := (layoutOf s.cfg.val []).1 }
    ((layoutOf s.cfg.val []).2 ≤ s.cfg.val.sharedCapacity ∧
      activateConfiguration n s = activateInterfaces (interfacesOf s.cfg.val) { u with activeConfig := n }) ∨
    (s.cfg.val.sharedCapacity < (layoutOf s.cfg.val []).2 ∧
      activateConfiguration n s = .ended { u with fatal := some .bufferAlloc }) := by
  have hrun : activateConfiguration n s = (computeLayout (deactivate s)).bind fun _ u =>
      activateInterfaces (interfacesOf u.cfg.val) { u with activeConfig := n } := by
    rw [activateConfiguration, if_neg (by simp [hv]), if_neg hn]
  have hc := deactivate_cfg s
  have hl := deactivate_bufLayout s
  have h := computeLayout_cases (deactivate s)
  rw [hrun]
  generalize deactivate s = d at hc hl h ⊢
  rw [← hc]
  rw [hl] at h
  rcases h with ⟨hfit, h⟩ | ⟨hbig, h⟩
  · exact .inl ⟨hfit, by rw [h, bind_ok]⟩
  · exact .inr ⟨hbig, by rw [h, bind_ended]⟩

/-- Settles O40. -/
theorem configurationActivates : Obligations.ConfigurationActivates := by
  intro s n hf
  have hrun : exec (.activateConfiguration n) s = ((activateConfiguration n s).latch .bool).outcome :=
    live_of_running hf _
  rw [hrun]
  have hep := ep_deactivate s
  have heq := deactivate_eq s
  refine ⟨fun h0 hv => ?_, fun h0 => ?_, fun h0 hv hbig => ?_, fun h0 hv hfit => ?_⟩
  · rw [activateConfiguration, if_pos ⟨h0, hv⟩]
    rfl
  · subst h0
    obtain ⟨hd, he, hc⟩ := deactivated s
    have hok : activateConfiguration 0 s = .ok true (deactivate s) := by
      rw [activateConfiguration, if_neg (by simp), if_pos rfl]
    rw [hok]
    generalize deactivate s = u at hep heq hd he hc
    have htrace : u.trace = s.trace ++ disableCommands s := by rw [heq]
    have hphase : u.ctrlPhase = s.ctrlPhase := by rw [heq]
    have hpending : u.pendingOut = s.pendingOut := by rw [heq]
    refine ⟨_, rfl, rfl, ⟨fun n d hn => (ep_ret u _ n d).trans (hd.others n d hn), hd.layout, hd.alts, hd.config,
      hd.epbuf, ?_, ?_⟩, fun d => (ep_ret u _ 0 d).trans (he d), ?_, hphase, hpending, htrace⟩
    · exact hd.audio.trans ⟨rfl, rfl, rfl, rfl, rfl, rfl, rfl, rfl, rfl, rfl, rfl, rfl⟩
    · exact hd.machine.trans ⟨rfl, rfl, rfl, rfl, rfl, rfl, rfl⟩
    · exact ⟨hc.setup, hc.cts, hc.pendingAddress, hc.addressPending, hc.deviceAddress, hc.ep0Stalled, hc.ep0in,
        hc.ep0out⟩
  · rcases activateConfiguration_layout h0 hv with ⟨hfit, -⟩ | ⟨-, h⟩
    · exact absurd hbig (Nat.not_lt.2 hfit)
    · rw [h]
      generalize deactivate s = u at hep heq
      refine ⟨_, rfl, by rw [heq], fun d => ?_, fun m d hm => ?_⟩
      · exact (ep_congr rfl rfl 0 d).trans ((hep 0 d).trans (if_pos rfl))
      · exact (ep_congr rfl rfl m d).trans ((hep m d).trans (if_neg hm))
  · rcases activateConfiguration_layout h0 hv with ⟨-, h⟩ | ⟨hbig, -⟩
    swap
    · exact absurd hfit (Nat.not_le.2 hbig)
    have halt := altSettingOf_deactivate s
    rw [h]
    generalize deactivate s = u at hep heq halt
    have hcfg : u.cfg = s.cfg := by rw [heq]
    obtain ⟨t, done, b, ht, hw⟩ := activateInterfaces_walks s.cfg (interfacesOf s.cfg.val)
      (s := { u with bufLayout := (layoutOf s.cfg.val []).1, activeConfig := n }) hcfg rfl
    rw [ht]
    have hu : ∀ m d, ({ u with bufLayout := (layoutOf s.cfg.val []).1, activeConfig := n } : State).ep m d
        = if m = 0 then s.ep m d else { s.ep m d with enabled := false, armed := none } := fun m d =>
      (ep_congr rfl rfl m d).trans (hep m d)
    have hothers : ∀ m d, (∀ i ∈ done, ¬Listed (endpointsOf s.cfg.val i.toNat 0) m d) →
        t.ep m d = if m = 0 then s.ep m d else { s.ep m d with enabled := false, armed := none } := fun m d hm =>
      (hw.others m d hm).trans (hu m d)
    have hplaced : ∀ i ∈ done, ∀ e ∈ endpointsOf s.cfg.val i.toNat 0, ∃ off,
        (layoutOf s.cfg.val []).1.lookup (addrOf e) = some off ∧
        off + Bits.roundup64 e.maxPacketSize ≤ (layoutOf s.cfg.val []).2 ∧
        t.ep e.number e.direction = ⟨e.type, e.maxPacketSize, off, .data0, true, none⟩ := by
      intro i hi e he
      obtain ⟨off, hoff, -, hend⟩ := layout_region (mem_itemsOf he)
      refine ⟨off, hoff, hend, (hw.listed i hi e he).trans ?_⟩
      rw [recordOf, hoff]
      rfl
    have htcfg : t.cfg = s.cfg := by rw [hw.rest]; exact hcfg
    have htact : t.activeConfig = n := by rw [hw.rest]
    have htalt : ∀ i, altSettingOf t i = 0 := fun i => by
      rw [altSettingOf, hw.rest]
      exact halt i
    refine ⟨_, done, b, rfl, hw.begins, hw.whole, hw.last, fun j i hj => ?_, hw.succeeds, ?_, fun d => ?_,
      fun i hi e he => ?_, fun m d hm hn => ?_, fun m d hm hen => ?_, fun hb m d hm => ?_⟩
    · have ha := hw.answers j i hj
      rw [heq] at ha
      exact ha
    · have hrest := hw.rest
      rw [heq] at hrest
      rw [hrest]
    · refine (ep_ret t _ 0 d).trans ((hothers 0 d fun i hi ⟨e, he, hn, _⟩ => ?_).trans (if_pos rfl))
      exact item_number_ne_zero s.cfg (mem_itemsOf he) hn
    · obtain ⟨off, hoff, -, hrec⟩ := hplaced i hi e he
      exact ⟨off, hoff, (ep_ret t _ _ _).trans hrec⟩
    · exact (ep_ret t _ m d).trans ((hothers m d fun i hi ⟨e, he, k⟩ => hn i hi e he k).trans (if_neg hm))
    · rw [ep_ret] at hen ⊢
      show _ ≤ t.cfg.val.sharedCapacity
      rw [htcfg]
      by_cases hl : ∃ i ∈ done, Listed (endpointsOf s.cfg.val i.toNat 0) m d
      · obtain ⟨i, hi, e, he, rfl, rfl⟩ := hl
        obtain ⟨off, hoff, hend, hrec⟩ := hplaced i hi e he
        rw [hrec]
        have hle := le_roundup64 e.maxPacketSize
        dsimp only
        omega
      · rw [hothers m d fun i hi k => hl ⟨i, hi, k⟩, if_neg hm] at hen
        cases hen
    · rw [ep_ret]
      show (t.ep m d).enabled = true ↔ t.activeConfig ≠ 0 ∧ ∃ i : Byte, Listed (endpointsOf t.cfg.val i.toNat
        (altSettingOf t i.toNat).toNat) m d
      simp only [htact, htcfg, htalt]
      constructor
      · intro hen
        by_contra hl
        rw [hothers m d fun i _ k => hl ⟨h0, i, k⟩, if_neg hm] at hen
        cases hen
      · rintro ⟨-, i, e, he, rfl, rfl⟩
        have hi : i ∈ done := by
          rw [hw.whole hb]
          exact mem_interfacesOf s.cfg he
        obtain ⟨off, -, -, hrec⟩ := hplaced i hi e he
        rw [hrec]

end Sys2Proof.Machine
end

section
set_option Elab.async false
/-! PROOFS. The feedback step (spec/47_feedback.md), the start and the stop of the stream (spec/45_playback.md R336 to
R350) and SET_INTERFACE (spec/40_control_dispatch.md R182). -/

namespace Sys2Proof.Machine

/-! ## The feedback step -/

/-- The streaming endpoint and the feedback endpoint are not endpoint 0 (10 R8, 70 R506). -/
theorem WfConfig.endpoints_ne_zero (c : WfConfig) : c.val.epStreamOut ≠ 0 ∧ c.val.epFbIn ≠ 0 := by
  have h := c.ok
  simp only [Config.wf, Bool.and_eq_true, decide_eq_true_eq] at h
  obtain ⟨ho, hi⟩ : 1 ≤ c.val.epStreamOut.val ∧ 1 ≤ c.val.epFbIn.val := by tauto
  exact ⟨fun e => by rw [e] at ho; exact absurd ho (by decide), fun e => by rw [e] at hi; exact absurd hi (by decide)⟩

/-- The feedback endpoint can carry a value (47 R404). -/
abbrev FbArms (s : State) : Prop :=
  (s.ep s.cfg.val.epFbIn .IN).enabled = true ∧ 4 ≤ (s.ep s.cfg.val.epFbIn .IN).maxPacketSize

/-- The value's buffer lies inside EPBUF. -/
def FbFits (s : State) : Prop :=
  FbArms s → (s.ep s.cfg.val.epFbIn .IN).bufferAddress + 4 ≤ s.cfg.val.sharedCapacity

theorem BuffersFit.fbFits {s : State} (h : BuffersFit s) : FbFits s := fun ⟨he, h4⟩ =>
  (Nat.add_le_add_left h4 _).trans (h _ _ (WfConfig.endpoints_ne_zero s.cfg).2 he)

/-- The feedback value's bytes are those of its 16.16 word (30 R143, R144). -/
theorem toLE32_feedbackValue (s : State) : Bits.toLE32 (feedbackValue s) = feedbackBytes s := by
  have hrate : adjustedRate s = reportedRate s := by
    have hfilter : nextFiltered s = filterStep s := rfl
    unfold adjustedRate reportedRate
    rw [hfilter]
    split
    · rfl
    · rw [mul_one]; rfl
  have hval : (feedbackValue s).toNat = (⌊reportedRate s * 65536⌋ % 2 ^ 32).toNat := by
    rw [feedbackValue, fixed1616, hrate, BitVec.toNat_ofInt]
    rfl
  rw [Bits.toLE32, hval, feedbackBytes]
  simp only [Bits.toLE, Nat.div_div_eq_div_mul]
  rfl

/-- The feedback bytes follow the playback state, the rate and, while playing, the filter (47 R402). -/
theorem feedbackBytes_congr {s t : State} (hp : t.pstate = s.pstate) (hr : t.sampleRate = s.sampleRate)
    (hf : s.pstate = .playing → t.filtered = s.filtered ∧ t.steadyFill = s.steadyFill) :
    feedbackBytes t = feedbackBytes s := by
  have hrate : reportedRate t = reportedRate s := by
    unfold reportedRate filterStep
    rw [hr, hp]
    by_cases h : s.pstate = .playing
    · rw [(hf h).1, (hf h).2]
    · rw [if_neg h, if_neg h]
  rw [feedbackBytes, feedbackBytes, hrate]

theorem fbStep_idle {s : State} (h : ¬FbArms s) : fbStep s = .ok () { s with filtered := filterStep s } := by
  have hno : (s.ep s.cfg.val.epFbIn .IN).enabled = false ∨ (s.ep s.cfg.val.epFbIn .IN).maxPacketSize < 4 := by
    rw [← Bool.not_eq_true, ← Nat.not_le]
    exact not_and_or.1 h
  rw [fbStep, startTransfer_refuses (by exact hno)]
  rfl

theorem fbStep_arms {s : State} (h : FbArms s) (hfit : FbFits s) :
    fbStep s = .ok () { s with
      filtered := filterStep s, epIn := s.epIn.set s.cfg.val.epFbIn ((s.ep s.cfg.val.epFbIn .IN).afterArm 4)
      epbuf := s.epbuf.writeN (s.ep s.cfg.val.epFbIn .IN).bufferAddress (feedbackBytes s)
      trace := s.trace ++ [.hwArm s.cfg.val.epFbIn .IN 4 (s.ep s.cfg.val.epFbIn .IN).nextToggleBit] } := by
  have htake : (feedbackBytes s).take 4 = feedbackBytes s := rfl
  rw [fbStep, toLE32_feedbackValue,
    startTransfer_in (WfConfig.endpoints_ne_zero s.cfg).2 (by exact h.1) (by exact h.2) (by exact le_refl 4)
      (by exact hfit h), htake]
  rfl

/-- A feedback step always ends (47 R402): what it leaves of the endpoint table, EPBUF and the trace. -/
theorem fbStep_ok {s : State} (hfit : FbFits s) : ∃ t, fbStep s = .ok () t ∧
    t = { s with filtered := filterStep s, epIn := t.epIn, epbuf := t.epbuf, trace := t.trace } ∧
    (FbArms s → t.trace = s.trace ++ [.hwArm s.cfg.val.epFbIn .IN 4 (s.ep s.cfg.val.epFbIn .IN).nextToggleBit] ∧
      (∀ n d, t.ep n d = if n = s.cfg.val.epFbIn ∧ d = .IN then (s.ep s.cfg.val.epFbIn .IN).afterArm 4 else s.ep n d) ∧
      ∀ a, t.epbuf.read a = stored (s.ep s.cfg.val.epFbIn .IN).bufferAddress (feedbackBytes s) s.epbuf.read a) ∧
    (¬FbArms s → t.trace = s.trace ∧ (∀ n d, t.ep n d = s.ep n d) ∧ t.epbuf = s.epbuf) := by
  by_cases h : FbArms s
  · exact ⟨_, fbStep_arms h hfit, rfl, fun _ => ⟨rfl, ep_of_epIn_set rfl rfl, fun a => read_writeN _ _ _ a⟩,
      fun hn => absurd h hn⟩
  · exact ⟨_, fbStep_idle h, rfl, fun hy => absurd hy h, fun _ => ⟨rfl, fun n d => ep_congr rfl rfl n d, rfl⟩⟩

/-- Settles O59. -/
theorem feedbackReportsRate : Obligations.FeedbackReportsRate := by
  intro s len hf
  have hrun : live s (fbStep s) = (fbStep s).outcome := live_of_running hf _
  refine ⟨fun h => ?_, fun he h4 hfit => ?_⟩
  · have hno : ¬FbArms s := fun k => h.elim (fun h => absurd (h.symm.trans k.1) (by decide)) fun h =>
      absurd k.2 (Nat.not_le.2 h)
    have hend : live s (fbStep s) = .next { s with filtered := filterStep s } := by
      rw [hrun, fbStep_idle hno]
      rfl
    exact ⟨hend, hend⟩
  · have harms : FbArms s := ⟨he, h4⟩
    have hend := hrun.trans (congrArg Res.outcome (fbStep_arms harms fun _ => hfit))
    exact ⟨_, hend, hend, rfl, ep_of_epIn_set rfl rfl, fun a => read_writeN _ _ _ a⟩

/-! ## The stream starts and stops -/

theorem ringSizeOf_pos (c : WfConfig) (f : SampleFormat) (r : BitVec 32) : ringSizeOf c.val f r ≠ 0 := by
  have h := c.ok
  simp only [Config.wf, Bool.and_eq_true, decide_eq_true_eq, List.all_eq_true] at h
  obtain ⟨hl, h16, h24, h32⟩ : (∀ x ∈ c.val.ringSizes, 1 ≤ x.2.2) ∧ 1 ≤ c.val.ringSize16 ∧ 1 ≤ c.val.ringSize24 ∧
      1 ≤ c.val.ringSize32 := by tauto
  unfold ringSizeOf
  split
  · next x hx => exact Nat.pos_iff_ne_zero.1 (hl x (List.mem_of_find?_eq_some hx))
  · cases f <;> dsimp only <;> omega

/-- After the start of a stream (45 R336). -/
def streamStarted (f : SampleFormat) (s : State) : State :=
  { s with
    outputRunning := false, format := some f, pstate := .buffering, periodFrames := s.nextPeriod
    rb := if ringSizeOf s.cfg.val f s.sampleRate = s.rb.size then s.rb else
      { storage := if s.rb.capacity < ringSizeOf s.cfg.val f s.sampleRate then [] else s.rb.storage
        size := ringSizeOf s.cfg.val f s.sampleRate
        capacity := max s.rb.capacity (ringSizeOf s.cfg.val f s.sampleRate)
        head := 0, tail := 0, fullFlag := false }
    trace := s.trace ++ [.drvStop, .drvConfigure (match f with | .s16 => 16 | .s24 => 24 | .s32 => 32)
      s.sampleRate] }

theorem ringResize_ok {n : Nat} (hn : n ≠ 0) (s : State) : ringResize n s = .ok () { s with
    rb := if n = s.rb.size then s.rb else
      { storage := if s.rb.capacity < n then [] else s.rb.storage
        size := n, capacity := max s.rb.capacity n, head := 0, tail := 0, fullFlag := false } } := by
  rw [ringResize, if_neg hn]
  by_cases h : n = s.rb.size
  · rw [if_pos h, if_pos h]
  · have hmax : (if s.rb.capacity < n then n else s.rb.capacity) = max s.rb.capacity n := by
      split <;> omega
    rw [if_neg h, if_neg h, ← hmax]

theorem streamStart_ok (f : SampleFormat) (s : State) : streamStart f s = .ok () (streamStarted f s) := by
  have htrace : (configureOutput f (stopOutput s)).trace = (streamStarted f s).trace := by
    cases f <;> simp [configureOutput, stopOutput, streamStarted, emit, bitDepth]
  have hconf : configureOutput f (stopOutput s) = { s with
      outputRunning := false, periodFrames := s.nextPeriod, trace := (streamStarted f s).trace } := by
    rw [← htrace]
    rfl
  rw [streamStart, hconf]
  dsimp only
  rw [ringResize_ok (ringSizeOf_pos s.cfg f _)]
  rfl

/-- The streaming endpoint armed for the next packet, where it is enabled (45 R350, R352). -/
theorem streamTransfer_ok (s : State) : ∃ b t,
    startTransfer s.cfg.val.epStreamOut .OUT [] (s.ep s.cfg.val.epStreamOut .OUT).maxPacketSize s = .ok b t ∧
    t = { s with epOut := t.epOut, trace := s.trace ++ if (s.ep s.cfg.val.epStreamOut .OUT).enabled = true then
      [.hwArm s.cfg.val.epStreamOut .OUT (s.ep s.cfg.val.epStreamOut .OUT).maxPacketSize
        (s.ep s.cfg.val.epStreamOut .OUT).nextToggleBit] else [] } ∧
    ∀ n d, t.ep n d = if n = s.cfg.val.epStreamOut ∧ d = .OUT ∧ (s.ep n d).enabled = true then
      (s.ep n d).afterArm (s.ep n d).maxPacketSize else s.ep n d := by
  cases he : (s.ep s.cfg.val.epStreamOut .OUT).enabled with
  | true =>
    have hrec := armEndpoint_out s s.cfg.val.epStreamOut (s.ep s.cfg.val.epStreamOut .OUT).maxPacketSize
    have hep := ep_armEndpoint s.cfg.val.epStreamOut .OUT (s.ep s.cfg.val.epStreamOut .OUT).maxPacketSize s
    rw [startTransfer_out he (Nat.le_refl _)]
    generalize armEndpoint s.cfg.val.epStreamOut .OUT (s.ep s.cfg.val.epStreamOut .OUT).maxPacketSize s = t at hrec hep
    refine ⟨true, t, rfl, by rw [if_pos rfl, hrec], fun n d => (hep n d).trans ?_⟩
    by_cases hx : n = s.cfg.val.epStreamOut ∧ d = .OUT
    · obtain ⟨rfl, rfl⟩ := hx
      rw [if_pos ⟨rfl, rfl⟩, if_pos ⟨rfl, rfl, he⟩]
    · rw [if_neg hx, if_neg fun k => hx ⟨k.1, k.2.1⟩]
  | false =>
    refine ⟨false, s, startTransfer_refuses (.inl he), by simp, fun n d => (if_neg ?_).symm⟩
    rintro ⟨rfl, rfl, h⟩
    rw [he] at h
    cases h

/-- The streaming callback on an alternate setting that has a format (45 R350, 47 R402). -/
theorem streamingCallback_starts {s : State} {a : BitVec 16} {f : SampleFormat} (ha : a ≠ 0)
    (hf : altFormat s.cfg.val a = some f) (hfit : FbFits s) :
    let so := s.cfg.val.epStreamOut
    let fb := s.cfg.val.epFbIn
    ∃ t, streamingCallback a s = .ok true t ∧
      t = { streamStarted f s with
        epOut := t.epOut, epIn := t.epIn, epbuf := t.epbuf, filtered := 1 / 2, trace := t.trace } ∧
      (FbArms s → t.trace = (streamStarted f s).trace
          ++ (if (s.ep so .OUT).enabled = true then
              [.hwArm so .OUT (s.ep so .OUT).maxPacketSize (s.ep so .OUT).nextToggleBit] else [])
          ++ [.hwArm fb .IN 4 (s.ep fb .IN).nextToggleBit] ∧
        (∀ n d, t.ep n d = if n = so ∧ d = .OUT ∧ (s.ep n d).enabled = true then
            (s.ep n d).afterArm (s.ep n d).maxPacketSize
          else if n = fb ∧ d = .IN then (s.ep n d).afterArm 4 else s.ep n d) ∧
        ∀ x, t.epbuf.read x = stored (s.ep fb .IN).bufferAddress (feedbackBytes (streamStarted f s)) s.epbuf.read x) ∧
      (¬FbArms s → t.trace = (streamStarted f s).trace
          ++ (if (s.ep so .OUT).enabled = true then
              [.hwArm so .OUT (s.ep so .OUT).maxPacketSize (s.ep so .OUT).nextToggleBit] else []) ∧
        (∀ n d, t.ep n d = if n = so ∧ d = .OUT ∧ (s.ep n d).enabled = true then
            (s.ep n d).afterArm (s.ep n d).maxPacketSize else s.ep n d) ∧ t.epbuf = s.epbuf) := by
  intro so fb
  obtain ⟨b, v, hv, hrest, hep⟩ := streamTransfer_ok (streamStarted f s)
  have hps : v.pstate = .buffering := by rw [hrest]; rfl
  have hrate : v.sampleRate = (streamStarted f s).sampleRate := by rw [hrest]
  have hbuf : v.epbuf = s.epbuf := by rw [hrest]; rfl
  have hcfg : v.cfg = s.cfg := by rw [hrest]; rfl
  have hsame : ∀ n d, (streamStarted f s).ep n d = s.ep n d := fun n d => ep_congr rfl rfl n d
  have hvep : ∀ n d, v.ep n d = if n = so ∧ d = .OUT ∧ (s.ep n d).enabled = true then
      (s.ep n d).afterArm (s.ep n d).maxPacketSize else s.ep n d := fun n d => by
    rw [hep, hsame]
    rfl
  have hfb : v.ep v.cfg.val.epFbIn .IN = s.ep fb .IN := by
    rw [hcfg, hvep, if_neg fun h => by cases h.2.1]
  have harms : FbArms v ↔ FbArms s := by unfold FbArms; rw [hfb]
  have hbytes : feedbackBytes v = feedbackBytes (streamStarted f s) :=
    feedbackBytes_congr (hps.trans rfl) hrate fun h => by cases h
  have hfilter : filterStep v = 1 / 2 := by rw [filterStep, hps]; rfl
  obtain ⟨t, ht, htrest, hyes, hno⟩ := fbStep_ok (s := v) fun h => by
    rw [hfb, hcfg]
    exact hfit (harms.1 h)
  have htrace : v.trace = (streamStarted f s).trace ++ (if (s.ep so .OUT).enabled = true then
      [.hwArm so .OUT (s.ep so .OUT).maxPacketSize (s.ep so .OUT).nextToggleBit] else []) := by
    rw [hrest, ← hsame]
    rfl
  rw [hfb, hcfg, htrace, hbytes, hbuf] at hyes
  rw [htrace, hbuf] at hno
  refine ⟨t, ?_, ?_, fun h => ?_, fun h => ?_⟩
  · rw [streamingCallback, if_neg ha, hf]
    dsimp only
    rw [streamStart_ok, bind_ok, hv, bind_ok, ht, bind_ok]
  · rw [htrest, hfilter, hrest]
  · obtain ⟨h1, h2, h3⟩ := hyes (harms.2 h)
    refine ⟨h1, fun n d => ?_, h3⟩
    rw [h2, hvep]
    by_cases hx : n = fb ∧ d = .IN
    · obtain ⟨rfl, rfl⟩ := hx
      rw [if_pos ⟨rfl, rfl⟩, if_neg fun h => (by cases h.2.1), if_pos ⟨rfl, rfl⟩]
    · rw [if_neg hx, if_neg hx]
  · obtain ⟨h1, h2, h3⟩ := hno fun k => h (harms.1 k)
    exact ⟨h1, fun n d => (h2 n d).trans (hvep n d), h3⟩

/-- Settles O52. -/
theorem streamStartsAndStops : Obligations.StreamStartsAndStops := by
  intro s hf
  have hcall : ∀ a, exec (.setIfCallbackAsIf a) s = ((streamingCallback a s).latch .bool).outcome := fun a =>
    live_of_running hf _
  have hstart : ∀ f, exec (.streamStart f) s = .next (streamStarted f s) := fun f =>
    (live_of_running hf _).trans (congrArg Res.outcome (streamStart_ok f s))
  refine ⟨live_of_running hf _, fun f => hstart f, ?_, fun a ha hn => ?_, fun a f ha hfmt hfit => ?_⟩
  · rw [hcall, streamingCallback, if_pos rfl]
    rfl
  · rw [hcall, streamingCallback, if_neg ha, hn]
    rfl
  · obtain ⟨t, ht, hrest, hyes, hno⟩ := streamingCallback_starts ha hfmt hfit.fbFits
    refine ⟨_, { t with ret := .bool true }, hstart f, ?_, ?_, fun n d => (ep_ret t _ n d).trans ?_, fun h => ?_,
      fun h => ?_⟩
    · rw [hcall, ht]
      rfl
    · by_cases h : FbArms s
      · rw [if_pos h, ← (hyes h).1, hrest]
      · rw [if_neg h, List.append_nil, ← (hno h).1, hrest]
    · by_cases h : FbArms s
      · exact ((hyes h).2.1 n d).trans (if_congr Iff.rfl rfl
          (if_congr ⟨fun k => ⟨k.1, k.2, h⟩, fun k => ⟨k.1, k.2.1⟩⟩ rfl rfl))
      · exact ((hno h).2.1 n d).trans (if_congr Iff.rfl rfl (if_neg fun k => h k.2.2).symm)
    · exact (hyes h).2.2
    · exact (hno h).2.2

/-! ## SET_INTERFACE -/

/-- A streaming callback always answers where the feedback value has its buffer, and leaves `ret` and the control
endpoint's switch (45 R350). -/
theorem streamingCallback_ok {s : State} (a : BitVec 16) (hfit : FbFits s) :
    ∃ b t, streamingCallback a s = .ok b t ∧ t.ret = s.ret ∧ (t.ep 0 .IN).enabled = (s.ep 0 .IN).enabled := by
  by_cases ha : a = 0
  · exact ⟨_, _, if_pos ha, rfl, rfl⟩
  · cases hf : altFormat s.cfg.val a with
    | none => exact ⟨false, s, by rw [streamingCallback, if_neg ha, hf], rfl, rfl⟩
    | some f =>
      obtain ⟨t, ht, hrest, -⟩ := streamingCallback_starts ha hf hfit
      have hsame : SameEndpoints s t := run_related (A := Act .any) (R := SameEndpoints) SameEndpoints.refl
        SameEndpoints.trans act_sameEndpoints ((streamingCallback_does (sc := .any) a s).of_ok ht)
      exact ⟨true, t, ht, by rw [hrest]; rfl, hsame.enabled 0 .IN⟩

theorem exec_setInterface (v i l : BitVec 16) (s : State) : exec (.setInterface v i l) s = live s (setInterface i v s) :=
  rfl

/-- Settles O42. -/
theorem setInterfaceAnswers : Obligations.SetInterfaceAnswers := by
  intro s v i l hf hr
  have hset : exec (.setAlternateSetting i v) s = ((setAlternateSetting i v s).latch .bool).outcome :=
    live_of_running hf _
  by_cases hfail : s.activeConfig = 0 ∨ hasAlt s.cfg.val i.toNat v.toNat = false
  · have hno : setAlternateSetting i v s = .ok false s := by
      rcases hfail with h | h
      · exact if_pos h
      · rw [setAlternateSetting, if_pos h, ite_self]
    have hfalse : (hasAlt s.cfg.val i.toNat v.toNat && decide (s.activeConfig ≠ 0)) = false := by
      rcases hfail with h | h <;> simp [h]
    refine ⟨s, by rw [hset, hno, hfalse]; rfl, rfl, fun _ => ?_, fun h0 ha => ?_⟩
    · rw [exec_setInterface, live_of_running hf, setInterface, hno]
      rfl
    · rcases hfail with h | h
      · exact absurd h h0
      · exact absurd (ha.symm.trans h) (by decide)
  · obtain ⟨h0, ha⟩ := not_or.1 hfail
    have ha : hasAlt s.cfg.val i.toNat v.toNat = true := by simpa using ha
    obtain ⟨u, hu, hrest, -, hothers⟩ := setAlternateSetting_ok h0 ha hr.layout
    have htrue : (hasAlt s.cfg.val i.toNat v.toNat && decide (s.activeConfig ≠ 0)) = true := by
      rw [ha, Bool.true_and]
      exact decide_eq_true h0
    have hcfg : u.cfg = s.cfg := by rw [hrest]
    have hfu : u.fatal = none := by rw [hrest]; exact hf
    have hret : u.ret = s.ret := by rw [hrest]
    obtain ⟨hserved, hlayout⟩ := setAlternateSetting_served grants_fits (usbReady_iff.1 hr) hu
    have hready : UsbReady u := usbReady_iff.2 ⟨hserved, hlayout⟩
    have he : (u.ep 0 .IN).enabled = true := hready.ep0.inEnabled
    have hrun : exec (.setInterface v i l) s = ((invokeCallback i v u).bind ackOrStall).outcome := by
      rw [exec_setInterface, live_of_running hf, setInterface, hu, bind_ok, if_pos rfl]
    rw [hrun]
    refine ⟨u, by rw [hset, hu, htrue]; rfl, hret, fun h => absurd h hfail, fun _ _ => ⟨fun hc => ?_, fun hc => ?_,
      fun hc => ?_⟩⟩
    · rw [invokeCallback, hcfg, hc]
      exact outcome_ackOrStall he true
    · obtain ⟨b, w, hw, hwret, hwe⟩ := streamingCallback_ok v hready.fit.fbFits
      have hcall : setIfCallback s.cfg.val i = some .audioStreaming := by
        rw [setIfCallback, if_neg (by rw [hc]; exact Nat.not_le.2 (WfConfig.asIf_lt s.cfg)), if_pos hc]
      have hx : exec (.setIfCallbackAsIf v) u = ((streamingCallback v u).latch .bool).outcome := live_of_running hfu _
      refine ⟨w, b, by rw [hx, hw]; rfl, hwret, ?_⟩
      rw [invokeCallback, hcfg, hcall]
      dsimp only
      rw [hw, bind_ok, outcome_ackOrStall (hwe.trans he)]
    · rw [invokeCallback, hcfg, hc]
      exact outcome_ackOrStall (by exact he) _

end Sys2Proof.Machine
end

section
set_option Elab.async false
/-! PROOFS. Completion notices, the queue and the buffer-ready flag (spec/48_event_queue.md), and EP_CLEAR
(spec/40_control_dispatch.md R184). -/

namespace Sys2Proof.Machine

/-! ## Notices, the queue and the flag -/

theorem disarm_eq (s : State) (n : Fin 16) (d : Dir) :
    s.disarm n d = { s with epOut := (s.disarm n d).epOut, epIn := (s.disarm n d).epIn } := by
  cases d <;> rfl

/-- Settles O44. -/
theorem bufferDoneDispatches : Obligations.BufferDoneDispatches := by
  intro s n d len hf
  have hrun : exec (.evBufferDone n d len) s = (bufferDone n d len s).outcome := live_of_running hf _
  refine ⟨rfl, fun he => ?_, fun he => ⟨s.disarm n d, disarm_eq s n d, ep_disarm s n d, ?_⟩⟩
  · rw [hrun, bufferDone, if_pos he]
    rfl
  · have hfu : (s.disarm n d).fatal = none := by simpa using hf
    have hcfg : (s.disarm n d).cfg = s.cfg := disarm_cfg s n d
    have hlive : ∀ r, live (s.disarm n d) r = r.outcome := live_of_running hfu
    have hbody : exec (.evBufferDone n d len) s = (if n = 0 then onEp0Done d len (s.disarm n d)
        else if n = s.cfg.val.epStreamOut ∧ d = .OUT then onStreamOutDone len (s.disarm n d)
        else if n = s.cfg.val.epFbIn ∧ d = .IN then fbStep (s.disarm n d) else .ok () (s.disarm n d)).outcome := by
      rw [hrun, bufferDone, if_neg (by simp [he])]
      dsimp only
      rw [hcfg]
    refine ⟨fun h0 => ?_, fun hn hd => ?_, fun hn hd => ?_, fun h0 hso hfb => ?_⟩ <;> rw [hbody]
    · rw [if_pos h0]
      exact (hlive _).symm
    · rw [if_neg (hn ▸ (WfConfig.endpoints_ne_zero s.cfg).1), if_pos ⟨hn, hd⟩]
      exact (hlive _).symm
    · rw [if_neg (hn ▸ (WfConfig.endpoints_ne_zero s.cfg).2), if_neg fun h => (by rw [hd] at h; cases h.2),
        if_pos ⟨hn, hd⟩]
      exact (hlive _).symm
    · rw [if_neg h0, if_neg hso, if_neg hfb]
      rfl

theorem raiseNotice_eq (n : Fin 16) (d : Dir) (s : State) :
    raiseNotice n d s = { s with epOut := (raiseNotice n d s).epOut } := by
  unfold raiseNotice
  split <;> rfl

/-- Settles O46. -/
theorem queueAndFlagSteps : Obligations.QueueAndFlagSteps := by
  intro s hf
  have hrun : ∀ e, exec (.push e) s = (push e s).outcome := fun e => live_of_running hf _
  refine ⟨fun e he => ?_, fun n d len hb => ?_, fun n d len hb => ?_, live_of_running hf _, live_of_running hf _,
    live_of_running hf _⟩
  · have hpush : push e s = enqueue e s := by
      cases e with
      | bufferDone n d len => exact absurd rfl (he n d len)
      | setupPacket p => rfl
      | busReset => rfl
    rw [hrun, hpush]
    exact ⟨fun h => by rw [enqueue, if_pos h]; rfl, fun h => by rw [enqueue, if_neg (Nat.not_lt.2 h)]; rfl⟩
  · have hno : ¬completionAllowed s n d len = true := fun h => (completionAllowed_iff s n d len).1 h hb
    rw [hrun, push, if_neg hno]
    rfl
  · have hyes : completionAllowed s n d len = true := (completionAllowed_iff s n d len).2 hb
    rw [hrun, push, if_pos hyes]
    refine ⟨fun h => ?_, fun h => ?_⟩
    · have hrec := raiseNotice_eq n d { s with evq := s.evq ++ [.bufferDone n d len] }
      have hep := ep_raiseNotice n d { s with evq := s.evq ++ [.bufferDone n d len] }
      have hs : ∀ m e, ({ s with evq := s.evq ++ [.bufferDone n d len] } : State).ep m e = s.ep m e := fun m e =>
        ep_congr rfl rfl m e
      simp only [hs] at hep
      rw [enqueue, if_pos h, bind_ok]
      generalize raiseNotice n d _ = t at hrec hep
      exact ⟨t, rfl, hrec, hep⟩
    · rw [enqueue, if_neg (Nat.not_lt.2 h)]
      rfl

/-! ## The reference effect of EP_CLEAR, one endpoint -/

theorem ep_acked (s : State) (n : Fin 16) (d : Dir) : (acked s).ep n d = if n = 0 ∧ d = .IN then
    { s.ep 0 .IN with armed := some (.fresh 0 .data1), nextToggleBit := .data0 } else s.ep n d :=
  ep_of_epIn_set (t := acked s) (n := 0) rfl rfl n d

/-- An endpoint's record after its turn (40 R184). -/
def clearedRecord (s : State) (n : Fin 16) (d : Dir) : EpRecord :=
  let r := { s.ep n d with armed := none, nextToggleBit := .data0 }
  if (s.ep n d).enabled = false then s.ep n d
  else if n = s.cfg.val.epStreamOut ∧ d = .OUT then r.afterArm r.maxPacketSize
  else if n = s.cfg.val.epFbIn ∧ d = .IN ∧ 4 ≤ r.maxPacketSize then r.afterArm 4
  else r

/-- The commands of an endpoint's turn (40 R184). -/
def clearCommands (s : State) (x : Fin 16 × Dir) : List Cmd :=
  if (s.ep x.1 x.2).enabled = false then []
  else if x.1 = s.cfg.val.epStreamOut ∧ x.2 = .OUT then [.hwArm x.1 .OUT (s.ep x.1 x.2).maxPacketSize .data0]
  else if x.1 = s.cfg.val.epFbIn ∧ x.2 = .IN ∧ 4 ≤ (s.ep x.1 x.2).maxPacketSize then [.hwArm x.1 .IN 4 .data0]
  else []

section
variable {s : State} {n : Fin 16} {d : Dir}

/-- A disabled endpoint has no turn. -/
theorem cleared_off (h : (s.ep n d).enabled = false) : clearedRecord s n d = s.ep n d ∧ clearCommands s (n, d) = [] :=
  ⟨if_pos h, if_pos h⟩

/-- The streaming endpoint is armed for the next packet. -/
theorem cleared_stream (he : (s.ep n .OUT).enabled = true) (hn : n = s.cfg.val.epStreamOut) :
    clearedRecord s n .OUT = EpRecord.afterArm { s.ep n .OUT with armed := none, nextToggleBit := .data0 }
      (s.ep n .OUT).maxPacketSize ∧
    clearCommands s (n, .OUT) = [.hwArm n .OUT (s.ep n .OUT).maxPacketSize .data0] := by
  have hne : ¬(s.ep n .OUT).enabled = false := by simp [he]
  exact ⟨(if_neg hne).trans (if_pos ⟨hn, rfl⟩), (if_neg hne).trans (if_pos ⟨hn, rfl⟩)⟩

/-- The feedback endpoint is armed with the next value where it can carry one. -/
theorem cleared_feedback (he : (s.ep n .IN).enabled = true) (hn : n = s.cfg.val.epFbIn)
    (h4 : 4 ≤ (s.ep n .IN).maxPacketSize) :
    clearedRecord s n .IN = EpRecord.afterArm { s.ep n .IN with armed := none, nextToggleBit := .data0 } 4 ∧
    clearCommands s (n, .IN) = [.hwArm n .IN 4 .data0] := by
  have hne : ¬(s.ep n .IN).enabled = false := by simp [he]
  have hso : ¬(n = s.cfg.val.epStreamOut ∧ Dir.IN = .OUT) := fun h => by cases h.2
  exact ⟨(if_neg hne).trans ((if_neg hso).trans (if_pos ⟨hn, rfl, h4⟩)),
    (if_neg hne).trans ((if_neg hso).trans (if_pos ⟨hn, rfl, h4⟩))⟩

/-- Every other endpoint is only unarmed and returned to DATA0. -/
theorem cleared_plain (he : (s.ep n d).enabled = true) (hso : ¬(n = s.cfg.val.epStreamOut ∧ d = .OUT))
    (hfb : ¬(n = s.cfg.val.epFbIn ∧ d = .IN ∧ 4 ≤ (s.ep n d).maxPacketSize)) :
    clearedRecord s n d = { s.ep n d with armed := none, nextToggleBit := .data0 } ∧ clearCommands s (n, d) = [] := by
  have hne : ¬(s.ep n d).enabled = false := by simp [he]
  exact ⟨(if_neg hne).trans ((if_neg hso).trans (if_neg hfb)), (if_neg hne).trans ((if_neg hso).trans (if_neg hfb))⟩

end

/-- `t` is `s` after the turns of the listed endpoints (40 R184). -/
structure Cleared (l : List (Fin 16 × Dir)) (s t : State) : Prop where
  rest  : t = { s with
    epOut := t.epOut, epIn := t.epIn, epbuf := t.epbuf
    filtered := if (s.cfg.val.epFbIn, Dir.IN) ∈ l ∧ (s.ep s.cfg.val.epFbIn .IN).enabled = true then filterStep s
      else s.filtered
    trace := s.trace ++ l.flatMap (clearCommands s) }
  eps   : ∀ n d, t.ep n d = if (n, d) ∈ l then clearedRecord s n d else s.ep n d
  value : (s.cfg.val.epFbIn, Dir.IN) ∈ l → FbArms s → ∀ a, t.epbuf.read a =
    stored (s.ep s.cfg.val.epFbIn .IN).bufferAddress (feedbackBytes s) s.epbuf.read a
  same  : ¬((s.cfg.val.epFbIn, Dir.IN) ∈ l ∧ FbArms s) → t.epbuf = s.epbuf

theorem Cleared.single {s t : State} {n : Fin 16} {d : Dir}
    (hrest : t = { s with
      epOut := t.epOut, epIn := t.epIn, epbuf := t.epbuf
      filtered := if (n = s.cfg.val.epFbIn ∧ d = .IN) ∧ (s.ep n d).enabled = true then filterStep s else s.filtered
      trace := s.trace ++ clearCommands s (n, d) })
    (heps : ∀ m e, t.ep m e = if m = n ∧ e = d then clearedRecord s n d else s.ep m e)
    (hvalue : n = s.cfg.val.epFbIn → d = .IN → FbArms s → ∀ a, t.epbuf.read a =
      stored (s.ep s.cfg.val.epFbIn .IN).bufferAddress (feedbackBytes s) s.epbuf.read a)
    (hsame : ¬(n = s.cfg.val.epFbIn ∧ d = .IN ∧ FbArms s) → t.epbuf = s.epbuf) : Cleared [(n, d)] s t := by
  have hmem : ∀ m e, (m, e) ∈ [(n, d)] ↔ n = m ∧ d = e := fun m e => by simp [eq_comm]
  refine ⟨?_, fun m e => ?_, fun h => ?_, fun h => hsame fun k => h ⟨(hmem _ _).2 ⟨k.1, k.2.1⟩, k.2.2⟩⟩
  · rw [List.flatMap_singleton]
    refine hrest.trans ?_
    congr 1
    refine if_congr ?_ rfl rfl
    rw [hmem]
    exact and_congr_right fun ⟨hn, hd⟩ => by rw [hn, hd]
  · rw [heps]
    by_cases h : m = n ∧ e = d
    · rw [if_pos h, if_pos ((hmem m e).2 ⟨h.1.symm, h.2.symm⟩), h.1, h.2]
    · rw [if_neg h, if_neg fun k => h ⟨((hmem m e).1 k).1.symm, ((hmem m e).1 k).2.symm⟩]
  · obtain ⟨hn, hd⟩ := (hmem _ _).1 h
    exact hvalue hn hd

/-- The first writes of an enabled endpoint's turn. -/
theorem disarm_toggled (s : State) (n : Fin 16) (d : Dir) : ∃ u, (s.setToggle n d .data0).disarm n d = u ∧
    u = { s with epOut := u.epOut, epIn := u.epIn } ∧
    ∀ m e, u.ep m e = if m = n ∧ e = d then { s.ep n d with armed := none, nextToggleBit := .data0 } else s.ep m e := by
  refine ⟨_, rfl, by cases d <;> rfl, fun m e => ?_⟩
  have hself : (s.setToggle n d .data0).ep n d = { s.ep n d with nextToggleBit := .data0 } := by
    rw [ep_setToggle, if_pos ⟨rfl, rfl⟩]
  rw [ep_disarm, hself, ep_setToggle]
  split <;> rfl

theorem clearEndpoint_clears {s : State} (n : Fin 16) (d : Dir) (hfit : FbFits s) :
    ∃ t, clearEndpoint n d s = .ok () t ∧ Cleared [(n, d)] s t := by
  cases he : (s.ep n d).enabled with
  | false =>
    refine ⟨s, if_pos he, .single ?_ (fun m e => ?_) (fun hn hd harms => ?_) fun _ => rfl⟩
    · rw [if_neg (by simp [he]), (cleared_off he).2, List.append_nil]
    · rw [(cleared_off he).1]
      split
      · next h => rw [h.1, h.2]
      · rfl
    · rw [hn, hd] at he
      exact absurd (he.symm.trans harms.1) (by decide)
  | true =>
    have hne : ¬(s.ep n d).enabled = false := by simp [he]
    obtain ⟨u, hu, hrest, hep⟩ := disarm_toggled s n d
    have hcfg : u.cfg = s.cfg := by rw [hrest]
    have hrec : u.ep n d = { s.ep n d with armed := none, nextToggleBit := .data0 } := by
      rw [hep, if_pos ⟨rfl, rfl⟩]
    have hidle : ¬(n = s.cfg.val.epStreamOut ∧ d = .OUT) → ¬(n = s.cfg.val.epFbIn ∧ d = .IN) →
        Cleared [(n, d)] s u := by
      intro hso hfb
      obtain ⟨hr, hc⟩ := cleared_plain he hso fun h => hfb ⟨h.1, h.2.1⟩
      refine .single ?_ (fun m e => ?_) (fun hn hd => absurd ⟨hn, hd⟩ hfb) fun _ => by rw [hrest]
      · rw [if_neg fun h => hfb h.1, hc, List.append_nil, hrest]
      · rw [hep, hr]
    rw [clearEndpoint, if_neg hne]
    dsimp only
    rw [hu]
    cases d with
    | OUT =>
      by_cases hn : n = s.cfg.val.epStreamOut
      · obtain ⟨b, t, ht, htrest, htep⟩ := streamTransfer_ok u
        rw [hcfg, ← hn] at ht htrest htep
        have hen : (u.ep n .OUT).enabled = true := by rw [hrec]; exact he
        obtain ⟨hr, hc⟩ := cleared_stream he hn
        refine ⟨t, ?_, .single ?_ (fun m e => ?_) (fun _ hd => by cases hd) fun _ => by rw [htrest, hrest]⟩
        · dsimp only
          rw [hcfg, if_pos hn, ht]
          rfl
        · rw [if_neg fun h => (by cases h.1.2), hc, htrest, if_pos hen, hrec, hrest]
        · rw [htep, hr]
          by_cases h : m = n ∧ e = .OUT
          · obtain ⟨rfl, rfl⟩ := h
            rw [if_pos ⟨rfl, rfl, hen⟩, if_pos ⟨rfl, rfl⟩, hrec]
          · rw [if_neg h, if_neg fun k => h ⟨k.1, k.2.1⟩, hep, if_neg h]
      · refine ⟨u, ?_, hidle (fun h => hn h.1) fun h => by cases h.2⟩
        dsimp only
        rw [hcfg, if_neg hn]
    | IN =>
      by_cases hn : n = s.cfg.val.epFbIn
      · have hfilter : filterStep u = filterStep s := by rw [hrest]; rfl
        have hbytes : feedbackBytes u = feedbackBytes s := by rw [hrest]; rfl
        have hbuf : u.epbuf = s.epbuf := by rw [hrest]
        subst hn
        have harms : FbArms u ↔ FbArms s := by unfold FbArms; rw [hcfg, hrec]
        obtain ⟨t, ht, htrest, hyes, hno⟩ := fbStep_ok (s := u) fun h => by
          rw [hcfg, hrec]
          exact hfit (harms.1 h)
        rw [hcfg, hbytes, hbuf, hrec] at hyes
        rw [hbuf] at hno
        refine ⟨t, ?_, ?_⟩
        · dsimp only
          rw [hcfg, if_pos rfl, ht]
        · have hcond : (s.cfg.val.epFbIn = s.cfg.val.epFbIn ∧ Dir.IN = .IN) ∧
            (s.ep s.cfg.val.epFbIn .IN).enabled = true := ⟨⟨rfl, rfl⟩, he⟩
          by_cases h : FbArms s
          · obtain ⟨hr, hc⟩ := cleared_feedback he rfl h.2
            obtain ⟨htrace, hteps, htbuf⟩ := hyes (harms.2 h)
            refine .single ?_ (fun m e => ?_) (fun _ _ _ => htbuf) fun k => absurd ⟨rfl, rfl, h⟩ k
            · rw [htrace] at htrest
              rw [if_pos hcond, hc, htrest, hfilter, hrest]
            · rw [hteps, hr, hep]
              split <;> rfl
          · have hlt : ¬4 ≤ (s.ep s.cfg.val.epFbIn .IN).maxPacketSize := fun h4 => h ⟨he, h4⟩
            obtain ⟨hr, hc⟩ := cleared_plain he (fun k => by cases k.2) fun k => hlt k.2.2
            obtain ⟨htrace, hteps, htbuf⟩ := hno fun k => h (harms.1 k)
            refine .single ?_ (fun m e => ?_) (fun _ _ k => absurd k h) fun _ => htbuf
            · rw [htrace] at htrest
              rw [if_pos hcond, hc, List.append_nil, htrest, hfilter, hrest]
            · rw [hteps, hr, hep]
      · refine ⟨u, ?_, hidle (fun h => by cases h.2) fun h => hn h.1⟩
        dsimp only
        rw [hcfg, if_neg hn]

/-! ## The reference effect of EP_CLEAR, all endpoints -/

/-- A turn changes what is armed and the toggle alone. -/
theorem clearedRecord_keeps (s : State) (n : Fin 16) (d : Dir) : (clearedRecord s n d).enabled = (s.ep n d).enabled ∧
    (clearedRecord s n d).maxPacketSize = (s.ep n d).maxPacketSize ∧
    (clearedRecord s n d).bufferAddress = (s.ep n d).bufferAddress := by
  unfold clearedRecord
  dsimp only
  split_ifs <;> exact ⟨rfl, rfl, rfl⟩

theorem Cleared.keeps {l : List (Fin 16 × Dir)} {s t : State} (h : Cleared l s t) (n : Fin 16) (d : Dir) :
    (t.ep n d).enabled = (s.ep n d).enabled ∧ (t.ep n d).maxPacketSize = (s.ep n d).maxPacketSize ∧
    (t.ep n d).bufferAddress = (s.ep n d).bufferAddress := by
  rw [h.eps]
  split
  · exact clearedRecord_keeps s n d
  · exact ⟨rfl, rfl, rfl⟩

theorem Cleared.cons {x : Fin 16 × Dir} {r : List (Fin 16 × Dir)} {s u t : State} (hx : x ∉ r)
    (h : Cleared [x] s u) (k : Cleared r u t) : Cleared (x :: r) s t := by
  have hcfg : u.cfg = s.cfg := by rw [h.rest]
  have hother : ∀ n d, (n, d) ∈ r → u.ep n d = s.ep n d := fun n d hm => by
    rw [h.eps, if_neg fun e => hx ((List.mem_singleton.1 e : (n, d) = x) ▸ hm)]
  have hrecord : ∀ n d, (n, d) ∈ r → clearedRecord u n d = clearedRecord s n d := fun n d hm => by
    unfold clearedRecord
    rw [hother n d hm, hcfg]
  have hcommands : r.flatMap (clearCommands u) = r.flatMap (clearCommands s) :=
    List.flatMap_congr fun y hy => by
      unfold clearCommands
      rw [hother y.1 y.2 hy, hcfg]
  have harms : FbArms u ↔ FbArms s := by
    obtain ⟨h1, h2, -⟩ := h.keeps s.cfg.val.epFbIn .IN
    unfold FbArms
    rw [hcfg, h1, h2]
  have hmem : ∀ y, y ∈ x :: r ↔ y ∈ [x] ∨ y ∈ r := fun y => by simp
  have hps : u.pstate = s.pstate := by rw [h.rest]
  have hsteady : u.steadyFill = s.steadyFill := by rw [h.rest]
  have hrate : u.sampleRate = s.sampleRate := by rw [h.rest]
  have hfiltered : u.filtered = if (s.cfg.val.epFbIn, Dir.IN) ∈ [x] ∧ (s.ep s.cfg.val.epFbIn .IN).enabled = true then
      filterStep s else s.filtered := by rw [h.rest]
  have hlater : (s.cfg.val.epFbIn, Dir.IN) ∈ r → (s.cfg.val.epFbIn, Dir.IN) ∉ [x] ∧ u.filtered = s.filtered ∧
      filterStep u = filterStep s ∧ feedbackBytes u = feedbackBytes s := by
    intro hr
    have hno : (s.cfg.val.epFbIn, Dir.IN) ∉ [x] := fun e => hx ((List.mem_singleton.1 e : (_, _) = x) ▸ hr)
    rw [if_neg fun e => hno e.1] at hfiltered
    refine ⟨hno, hfiltered, ?_, feedbackBytes_congr hps hrate fun _ => ⟨hfiltered, hsteady⟩⟩
    rw [filterStep, filterStep, hps, hfiltered, hsteady]
  obtain ⟨henabled, -, haddress⟩ := h.keeps s.cfg.val.epFbIn .IN
  have hfilter : (if (s.cfg.val.epFbIn, Dir.IN) ∈ r ∧ (u.ep s.cfg.val.epFbIn .IN).enabled = true then filterStep u
      else u.filtered) = if (s.cfg.val.epFbIn, Dir.IN) ∈ x :: r ∧ (s.ep s.cfg.val.epFbIn .IN).enabled = true then
      filterStep s else s.filtered := by
    rw [henabled]
    by_cases hr : (s.cfg.val.epFbIn, Dir.IN) ∈ r
    · obtain ⟨-, hf, hstep, -⟩ := hlater hr
      rw [hf, hstep]
      exact if_congr (and_congr_left fun _ => ⟨fun _ => (hmem _).2 (.inr hr), fun _ => hr⟩) rfl rfl
    · rw [if_neg fun e => hr e.1, hfiltered]
      exact if_congr (and_congr_left fun _ => ⟨fun e => (hmem _).2 (.inl e), fun e => ((hmem _).1 e).resolve_right hr⟩)
        rfl rfl
  have htrace : u.trace ++ r.flatMap (clearCommands u) = s.trace ++ (x :: r).flatMap (clearCommands s) := by
    rw [hcommands, List.flatMap_cons, ← List.append_assoc, ← List.flatMap_singleton (clearCommands s) x, h.rest]
  have hkvalue := k.value
  have hksame := k.same
  rw [hcfg] at hkvalue hksame
  refine ⟨?_, fun n d => ?_, fun hm ha => ?_, fun hno => ?_⟩
  · have hrest := k.rest
    rw [hcfg, hfilter, htrace] at hrest
    rw [hrest, h.rest]
  · rw [k.eps]
    by_cases hr : (n, d) ∈ r
    · rw [if_pos hr, if_pos ((hmem _).2 (.inr hr)), hrecord n d hr]
    · rw [if_neg hr, h.eps]
      exact if_congr ⟨fun e => (hmem _).2 (.inl e), fun e => ((hmem _).1 e).resolve_right hr⟩ rfl rfl
  · by_cases hr : (s.cfg.val.epFbIn, Dir.IN) ∈ r
    · obtain ⟨hno, -, -, hbytes⟩ := hlater hr
      rw [haddress, hbytes, h.same fun e => hno e.1] at hkvalue
      exact hkvalue hr (harms.2 ha)
    · rw [hksame fun e => hr e.1]
      exact h.value (((hmem _).1 hm).resolve_right hr) ha
  · rw [hksame fun e => hno ⟨(hmem _).2 (.inr e.1), harms.1 e.2⟩]
    exact h.same fun e => hno ⟨(hmem _).2 (.inl e.1), e.2⟩

/-- The turns of a list of distinct endpoints (40 R184). -/
theorem clearEndpoints_clears {l : List (Fin 16 × Dir)} (hl : l.Nodup) {s : State} (hfit : FbFits s) :
    ∃ t, clearEndpoints l s = .ok () t ∧ Cleared l s t := by
  induction l generalizing s with
  | nil => exact ⟨s, rfl, by simp, fun n d => rfl, fun h => (by cases h), fun _ => rfl⟩
  | cons x r ih =>
    obtain ⟨hx, hr⟩ := List.nodup_cons.1 hl
    obtain ⟨u, hu, h⟩ := clearEndpoint_clears x.1 x.2 hfit
    have hcfg : u.cfg = s.cfg := by rw [h.rest]
    obtain ⟨h1, h2, h3⟩ := h.keeps s.cfg.val.epFbIn .IN
    obtain ⟨t, ht, k⟩ := ih hr (s := u) fun ⟨he, h4⟩ => by
      rw [hcfg] at he h4 ⊢
      rw [h1] at he
      rw [h2] at h4
      rw [h3]
      exact hfit ⟨he, h4⟩
    exact ⟨t, by rw [clearEndpoints, hu, bind_ok, ht], h.cons hx k⟩

/-! ## EP_CLEAR -/

/-- A list of commands that one element of the list makes. -/
theorem flatMap_eq_of_unique {α β : Type} {l : List α} {f : α → List β} {a : α} (hl : l.Nodup) (ha : a ∈ l)
    (hf : ∀ x ∈ l, x ≠ a → f x = []) : l.flatMap f = f a := by
  obtain ⟨l₁, l₂, rfl⟩ := List.append_of_mem ha
  obtain ⟨-, h2, hdis⟩ := List.nodup_append.1 hl
  have hnil : ∀ m : List α, (∀ x ∈ m, x ∈ l₁ ++ a :: l₂ ∧ x ≠ a) → m.flatMap f = [] := fun m hm =>
    List.flatMap_eq_nil_iff.2 fun x hx => hf x (hm x hx).1 (hm x hx).2
  rw [List.flatMap_append, List.flatMap_cons,
    hnil l₁ fun x hx => ⟨by simp [hx], hdis x hx a List.mem_cons_self⟩,
    hnil l₂ fun x hx => ⟨by simp [hx], fun e => (List.nodup_cons.1 h2).1 (e ▸ hx)⟩]
  simp

theorem mem_endpointNumbers (n : Fin 16) : n ∈ endpointNumbers ↔ n ≠ 0 := by
  revert n
  decide

theorem mem_nonControlEndpoints (n : Fin 16) (d : Dir) : (n, d) ∈ nonControlEndpoints ↔ n ≠ 0 := by
  revert n
  cases d <;> decide

/-- The commands of all turns: the streaming endpoint's, then the feedback endpoint's (40 R184). -/
theorem clearCommands_all (s : State) : nonControlEndpoints.flatMap (clearCommands s) =
    clearCommands s (s.cfg.val.epStreamOut, .OUT) ++ clearCommands s (s.cfg.val.epFbIn, .IN) := by
  obtain ⟨hso, hfb⟩ := WfConfig.endpoints_ne_zero s.cfg
  have hquiet : ∀ n d, ¬(n = s.cfg.val.epStreamOut ∧ d = .OUT) → ¬(n = s.cfg.val.epFbIn ∧ d = .IN) →
      clearCommands s (n, d) = [] := fun n d h1 h2 => by
    cases he : (s.ep n d).enabled with
    | false => exact (cleared_off he).2
    | true => exact (cleared_plain he h1 fun h => h2 ⟨h.1, h.2.1⟩).2
  have hone : ∀ (d : Dir) (a : Fin 16), a ≠ 0 → (∀ n, n ≠ a → clearCommands s (n, d) = []) →
      (endpointNumbers.map fun n => (n, d)).flatMap (clearCommands s) = clearCommands s (a, d) := by
    intro d a ha h
    have hnodup : (endpointNumbers.map fun n => (n, d)).Nodup := by cases d <;> decide
    have hmem : (a, d) ∈ endpointNumbers.map fun n => (n, d) :=
      List.mem_map.2 ⟨a, (mem_endpointNumbers a).2 ha, rfl⟩
    refine flatMap_eq_of_unique hnodup hmem fun x hx hne => ?_
    obtain ⟨n, -, rfl⟩ := List.mem_map.1 hx
    exact h n fun e => hne (by rw [e])
  rw [nonControlEndpoints, List.flatMap_append,
    hone .OUT s.cfg.val.epStreamOut hso fun n hn => hquiet n .OUT (fun h => hn h.1) fun h => (by cases h.2),
    hone .IN s.cfg.val.epFbIn hfb fun n hn => hquiet n .IN (fun h => by cases h.2) fun h => hn h.1]

/-- EP_CLEAR with its reference effect: every endpoint's turn, then the acknowledgement. -/
theorem epClear_reference {s : State} (hc : s.cfg.val.clearEffect = .reference) (he : s.epIn[0].enabled = true)
    (hfit : FbFits s) : ∃ u, epClear s = .ok () (acked u) ∧ Cleared nonControlEndpoints s u := by
  obtain ⟨u, hu, h⟩ := clearEndpoints_clears nonControlEndpoints_nodup hfit
  have heu : (u.ep 0 .IN).enabled = true := by rw [(h.keeps 0 .IN).1]; exact he
  refine ⟨u, ?_, h⟩
  rw [epClear, hc]
  dsimp only
  rw [clearReference, hu, bind_ok, ack_eq_ok heu]

/-- Settles O43. -/
theorem epClearResetsToggles : Obligations.EpClearResetsToggles := by
  refine ⟨fun s vendor v l hf hc he hfit => ?_, fun s vendor v l k hf hc hr hfit => ?_⟩
  · have hrun : exec (.epClear vendor v l) s = (epClear s).outcome := live_of_running hf _
    obtain ⟨u, hu, h⟩ := epClear_reference hc he hfit.fbFits
    obtain ⟨hso, hfb⟩ := WfConfig.endpoints_ne_zero s.cfg
    have hep : ∀ n d, n ≠ 0 → (acked u).ep n d = clearedRecord s n d := fun n d hn => by
      rw [ep_acked, if_neg fun e => hn e.1, h.eps, if_pos ((mem_nonControlEndpoints n d).2 hn)]
    have h0 : ∀ d, u.ep 0 d = s.ep 0 d := fun d => by
      rw [h.eps, if_neg fun e => (mem_nonControlEndpoints 0 d).1 e rfl]
    have hmem : (s.cfg.val.epFbIn, Dir.IN) ∈ nonControlEndpoints := (mem_nonControlEndpoints _ _).2 hfb
    have hstream : clearCommands s (s.cfg.val.epStreamOut, .OUT) =
        if (s.ep s.cfg.val.epStreamOut .OUT).enabled = true then
          [.hwArm s.cfg.val.epStreamOut .OUT (s.ep s.cfg.val.epStreamOut .OUT).maxPacketSize .data0] else [] := by
      cases hen : (s.ep s.cfg.val.epStreamOut .OUT).enabled with
      | true => exact (cleared_stream hen rfl).2
      | false => exact (cleared_off hen).2
    have hfeed : clearCommands s (s.cfg.val.epFbIn, .IN) =
        if FbArms s then [.hwArm s.cfg.val.epFbIn .IN 4 .data0] else [] := by
      by_cases hen : (s.ep s.cfg.val.epFbIn .IN).enabled = true
      · by_cases h4 : 4 ≤ (s.ep s.cfg.val.epFbIn .IN).maxPacketSize
        · rw [(cleared_feedback hen rfl h4).2, if_pos ⟨hen, h4⟩]
        · rw [(cleared_plain hen (fun e => by cases e.2) fun e => h4 e.2.2).2, if_neg fun e => h4 e.2]
      · rw [(cleared_off (by simpa using hen)).2, if_neg fun e => hen e.1]
    have hrest : u = { s with
        epOut := u.epOut, epIn := u.epIn, epbuf := u.epbuf
        filtered := if (s.ep s.cfg.val.epFbIn .IN).enabled then filterStep s else s.filtered
        trace := s.trace ++ nonControlEndpoints.flatMap (clearCommands s) } := by
      refine h.rest.trans ?_
      congr 1
      exact if_congr ⟨fun e => e.2, fun e => ⟨hmem, e⟩⟩ rfl rfl
    rw [clearCommands_all, hstream, hfeed] at hrest
    refine ⟨acked u, by rw [hrun, hu]; rfl, ?_, ?_, h0 .OUT, fun n d hn hen => ?_, fun n d hn hen h1 h2 => ?_,
      fun hen => ?_, fun harms => ?_, fun hen h4 => ?_, fun harms => ?_, fun hno => ?_⟩
    · have hack : acked u = { u with
          epIn := (acked u).epIn, ctrlPhase := .statusIn, trace := u.trace ++ [.hwArm 0 .IN 0 .data1] } := rfl
      generalize acked u = w at hack ⊢
      rw [hrest] at hack
      rw [hack]
      simp only [List.append_assoc]
    · have hin := (ep_acked u 0 .IN).trans (if_pos ⟨rfl, rfl⟩)
      rw [h0] at hin
      exact hin
    · rw [hep n d hn, (cleared_off hen).1]
    · rw [hep n d hn, (cleared_plain hen h1 fun e => h2 ⟨e.1, e.2.1⟩).1]
    · rw [hep _ _ hso, (cleared_stream hen rfl).1]
      rfl
    · rw [hep _ _ hfb, (cleared_feedback harms.1 rfl harms.2).1]
      rfl
    · rw [hep _ _ hfb, (cleared_plain hen (fun e => by cases e.2) fun e => absurd h4 (Nat.not_lt.2 e.2.2)).1]
    · exact h.value hmem harms
    · exact h.same fun e => hno e.2
  · have hrun : exec (.epClear vendor v l) s = (epClear s).outcome := live_of_running hf _
    rw [hrun, epClear_custom hc]
    cases hplan : Config.clearPlan k s.device with
    | none => exact ⟨fun _ => rfl, fun h => absurd rfl h⟩
    | some actions =>
      obtain ⟨u, hu, hframe⟩ := clearActions_total hr hfit actions
      have heu : (u.ep 0 .IN).enabled = true := (hframe.ready hr hfit).1.inEnabled
      refine ⟨fun h => (by cases h), fun _ => ⟨acked u, ?_, ?_, by simp [acked], by simp [acked], fun n d => ?_⟩⟩
      · dsimp only
        rw [hu, bind_ok, ack_eq_ok heu]
        rfl
      · have hack : acked u = { u with
            epIn := (acked u).epIn, ctrlPhase := .statusIn, trace := (acked u).trace } := rfl
        generalize acked u = w at hack ⊢
        rw [hframe.rest] at hack
        rw [hack]
      · rw [ep_acked]
        split
        · next h =>
          obtain ⟨rfl, rfl⟩ := h
          rw [hframe.eps]
        · exact hframe.eps n d

end Sys2Proof.Machine
end

section
set_option Elab.async false
/-! PROOFS. The mixer (spec/46_mixer.md) and sample unpacking (spec/45_playback.md R354 to R357). -/

namespace Sys2Proof.Bits

/-! ## Words and their bytes -/

theorem le16_toLE16 (v : BitVec 16) : le16 (toLE16 v) = v := by
  apply BitVec.eq_of_toNat_eq
  have h := v.isLt
  simp only [le16, toLE16, toLE, leNat, List.take_succ_cons, List.take_zero, BitVec.toNat_ofNat]
  omega

theorem le32_toLE32 (v : BitVec 32) : le32 (toLE32 v) = v := by
  apply BitVec.eq_of_toNat_eq
  have h := v.isLt
  simp only [le32, toLE32, toLE, leNat, List.take_succ_cons, List.take_zero, BitVec.toNat_ofNat]
  omega

theorem toLE16_le16 (x y : Byte) (r : Bytes) : toLE16 (le16 (x :: y :: r)) = [x, y] := by
  rw [toLE16_eq, le16_pair]
  exact congrArg₂ (fun a b => [a, b]) (mkField_lo y x) (mkField_hi y x)

theorem toLE32_le32 (w x y z : Byte) (r : Bytes) : toLE32 (le32 (w :: x :: y :: z :: r)) = [w, x, y, z] := by
  have hw := w.isLt
  have hx := x.isLt
  have hy := y.isLt
  have hz := z.isLt
  simp only [le32, toLE32, toLE, leNat, List.take_succ_cons, List.take_zero, BitVec.toNat_ofNat, List.cons.injEq,
    and_true]
  refine ⟨?_, ?_, ?_, ?_⟩ <;> apply BitVec.eq_of_toNat_eq <;> rw [BitVec.toNat_ofNat] <;> omega

end Sys2Proof.Bits

namespace Sys2Proof.Machine

/-! ## Gains -/

/-- A gain of the table is at most unity (46 R376). -/
theorem gain_le (c : WfConfig) {i : Nat} {g : BitVec 32} (h : c.val.gainTable[i]? = some g) : g.toNat ≤ 2 ^ 31 := by
  have hwf := c.ok
  simp only [Config.wf, gainTableOk, Bool.and_eq_true, decide_eq_true_eq] at hwf
  obtain ⟨hlen, hlast, hmono⟩ : c.val.gainTable.length = 97 ∧ c.val.gainTable[96]? = some Const.gainUnity ∧
      c.val.gainTable.Pairwise fun x y => x.toNat < y.toNat := by tauto
  obtain ⟨hi, rfl⟩ := List.getElem?_eq_some_iff.1 h
  obtain ⟨h96, hunity⟩ := List.getElem?_eq_some_iff.1 hlast
  have hone : c.val.gainTable[96].toNat = 2 ^ 31 := by rw [hunity]; rfl
  rcases Nat.lt_or_ge i 96 with hlt | hge
  · exact ((List.pairwise_iff_getElem.1 hmono i 96 hi h96 hlt).trans_eq hone).le
  · obtain rfl : i = 96 := by omega
    exact hone.le

theorem lookup_inTable (c : WfConfig) {v : BitVec 16} (h : InTable v) : ∃ g, lookup c.val v = some g ∧
    c.val.gainTable[(v.toInt.tdiv 256 + 96).toNat]? = some g ∧ g.toNat ≤ 2 ^ 31 := by
  obtain ⟨g, hg, ht⟩ := lookup_of_inTable c h
  exact ⟨g, hg, ht, gain_le c ht⟩

/-- Volume 0 is unity gain (46 R376). -/
theorem lookup_zero (c : WfConfig) : lookup c.val 0 = some Const.gainUnity := by
  have hwf := c.ok
  simp only [Config.wf, gainTableOk, Bool.and_eq_true, decide_eq_true_eq] at hwf
  have hlast : c.val.gainTable[96]? = some Const.gainUnity := by tauto
  obtain ⟨g, hg, ht⟩ := lookup_of_inTable c (v := 0) (by unfold InTable; decide)
  have hidx : (volumeDb 0 + 96).toNat = 96 := by decide
  rw [hidx, hlast] at ht
  rw [hg, ← ht]

theorem exec_lookup {s : State} (hf : s.fatal = none) (v : BitVec 16) :
    exec (.lookup v) s = match lookup s.cfg.val v with
      | some g => .next { s with ret := .gain g }
      | none => .refused .volumeOutsideTable := by
  have hrun : exec (.lookup v) s
      = ((Res.ofOption .volumeOutsideTable (lookup s.cfg.val v) s).latch .gain).outcome := live_of_running hf _
  rw [hrun]
  cases lookup s.cfg.val v <;> rfl

theorem exec_gains {s : State} (hf : s.fatal = none) {gL gR gM : BitVec 32}
    (h : gains s.cfg.val s.chan = some (gL, gR, gM)) : exec .gains s = .next { s with ret := .gains gL gR gM } := by
  have hrun : exec .gains s = ((Res.ofOption .volumeOutsideTable (gains s.cfg.val s.chan) s).latch
    fun g => .gains g.1 g.2.1 g.2.2).outcome := live_of_running hf _
  rw [hrun, h]
  rfl

/-- The gains of a call, side by side (46 R380, R381). -/
theorem gains_sides {c : Config} {ch : Channels} {gL gR gM : BitVec 32} (h : gains c ch = some (gL, gR, gM)) :
    (ch.master.muted = true ∨ ch.left.muted = true → gL = 0) ∧
    (ch.master.muted = true ∨ ch.right.muted = true → gR = 0) ∧
    (ch.master.muted = false → ch.left.muted = false → lookup c ch.left.volume = some gL) ∧
    (ch.master.muted = false → ch.right.muted = false → lookup c ch.right.volume = some gR) ∧
    lookup c ch.master.volume = some gM := by
  obtain ⟨hl, hr, hm⟩ := gains_eq_some.1 h
  refine ⟨fun k => ?_, fun k => ?_, fun k1 k2 => ?_, fun k1 k2 => ?_, hm⟩
  · rw [show effLeft ch = true by simpa [effLeft] using k, sideGain_muted] at hl
    exact (Option.some.inj hl).symm
  · rw [show effRight ch = true by simpa [effRight] using k, sideGain_muted] at hr
    exact (Option.some.inj hr).symm
  · rwa [show effLeft ch = false by simp [effLeft, k1, k2], sideGain_unmuted] at hl
  · rwa [show effRight ch = false by simp [effRight, k1, k2], sideGain_unmuted] at hr

/-- Settles O55. -/
theorem gainsAreLookedUp : Obligations.GainsAreLookedUp := by
  intro s hf
  refine ⟨fun v => ⟨fun h => ?_, fun h => ?_⟩, fun h => ?_, fun h => ?_⟩
  · obtain ⟨g, hg, ht, hle⟩ := lookup_inTable s.cfg h
    exact ⟨g, by rw [exec_lookup hf, hg], ht, hle⟩
  · rw [exec_lookup hf, lookup_of_not_inTable _ h]
  · have hrun : exec .gains s = ((Res.ofOption .volumeOutsideTable (gains s.cfg.val s.chan) s).latch
      fun g => .gains g.1 g.2.1 g.2.2).outcome := live_of_running hf _
    rw [hrun, gains_eq_none h]
    rfl
  · obtain ⟨⟨gL, gR, gM⟩, hg⟩ := gains_isSome s.cfg h
    obtain ⟨hl, hr, hlv, hrv, hm⟩ := gains_sides hg
    exact ⟨gL, gR, gM, exec_gains hf hg, hl, hr, fun k1 k2 => by rw [exec_lookup hf, hlv k1 k2],
      fun k1 k2 => by rw [exec_lookup hf, hrv k1 k2], by rw [exec_lookup hf, hm]⟩

/-! ## Scaling -/

/-- One floored multiplication by a gain of at most unity attenuates (46 R383). -/
theorem attenuate_nonneg {x : Int} {g : Nat} (hx : 0 ≤ x) (hg : g ≤ 2 ^ 31) :
    0 ≤ x * g / 2 ^ 31 ∧ x * g / 2 ^ 31 ≤ x := by
  have hg' : (g : Int) ≤ 2 ^ 31 := by exact_mod_cast hg
  constructor
  · exact Int.ediv_nonneg (Int.mul_nonneg hx (Int.natCast_nonneg g)) (by decide)
  · exact Int.ediv_le_of_le_mul (by decide) (Int.mul_le_mul_of_nonneg_left hg' hx)

theorem attenuate_neg {x : Int} {g : Nat} (hx : x < 0) (hg : g ≤ 2 ^ 31) :
    x ≤ x * g / 2 ^ 31 ∧ x * g / 2 ^ 31 ≤ 0 ∧ (0 < g → x * g / 2 ^ 31 < 0) := by
  have hg' : (g : Int) ≤ 2 ^ 31 := by exact_mod_cast hg
  have hg0 : (0 : Int) ≤ g := Int.natCast_nonneg g
  refine ⟨?_, ?_, fun hpos => ?_⟩
  · rw [Int.le_ediv_iff_mul_le (by decide)]
    nlinarith
  · have hle : x * g ≤ 0 := by nlinarith
    omega
  · have hpos' : (0 : Int) < g := by exact_mod_cast hpos
    have hlt : x * g < 0 := by nlinarith
    omega

theorem scaled_nonneg {x : Int} {gC gM : Nat} (hx : 0 ≤ x) (hC : gC ≤ 2 ^ 31) (hM : gM ≤ 2 ^ 31) :
    0 ≤ scaled x gC gM ∧ scaled x gC gM ≤ x := by
  obtain ⟨h1, h2⟩ := attenuate_nonneg hx hC
  obtain ⟨h3, h4⟩ := attenuate_nonneg h1 hM
  exact ⟨h3, h4.trans h2⟩

theorem scaled_neg {x : Int} {gC gM : Nat} (hx : x < 0) (hC : gC ≤ 2 ^ 31) (hM : gM ≤ 2 ^ 31) :
    x ≤ scaled x gC gM ∧ scaled x gC gM ≤ 0 ∧ (0 < gC → 0 < gM → scaled x gC gM ≤ -1) := by
  obtain ⟨h1, h2, h3⟩ := attenuate_neg hx hC
  rcases h2.lt_or_eq with hlt | h0
  · obtain ⟨h4, h5, h6⟩ := attenuate_neg hlt hM
    exact ⟨h1.trans h4, h5, fun _ hM0 => Int.le_sub_one_of_lt (h6 hM0)⟩
  · have hz : scaled x gC gM = 0 := by rw [scaled, h0, Int.zero_mul, Int.zero_ediv]
    exact ⟨hz ▸ hx.le, hz.le, fun hC0 => absurd (h3 hC0) (by rw [h0]; decide)⟩

theorem scaled_unity (x : Int) : scaled x (2 ^ 31) (2 ^ 31) = x := by
  have h : ∀ y : Int, y * ((2 ^ 31 : Nat) : Int) / 2 ^ 31 = y := fun y =>
    Int.mul_ediv_cancel y (by decide : ((2 : Int) ^ 31) ≠ 0)
  rw [scaled, h, h]

theorem scaled_zero (x : Int) (gM : Nat) : scaled x 0 gM = 0 := by simp [scaled]

/-- Settles O56. -/
theorem scaleAttenuates : Obligations.ScaleAttenuates := by
  intro s x gC gM hf
  refine ⟨live_of_running hf _, fun hC hM => ⟨fun hx => scaled_nonneg hx hC hM, fun hx => ?_, fun hx => ?_⟩,
    scaled_unity x, scaled_zero x _⟩
  · obtain ⟨h1, h2, -⟩ := scaled_neg hx hC hM
    exact ⟨h1, h2⟩
  · exact (scaled_neg hx hC hM).2.2

/-- A sample of `w + 1` bits stays one under gains of at most unity. -/
theorem toInt_scaled {w : Nat} {v : BitVec (w + 1)} {gC gM : Nat} (hC : gC ≤ 2 ^ 31) (hM : gM ≤ 2 ^ 31) :
    (BitVec.ofInt (w + 1) (scaled v.toInt gC gM)).toInt = scaled v.toInt gC gM := by
  have hlo := BitVec.le_toInt v
  have hhi := BitVec.toInt_lt (x := v)
  have hpow : (0 : Int) < 2 ^ w := by positivity
  refine BitVec.toInt_ofInt_eq_self (by omega) ?_ ?_ <;> simp only [Nat.add_sub_cancel] at hlo hhi ⊢
  · rcases lt_or_ge v.toInt 0 with hx | hx
    · exact hlo.trans (scaled_neg hx hC hM).1
    · have h := (scaled_nonneg hx hC hM).1
      omega
  · rcases lt_or_ge v.toInt 0 with hx | hx
    · have h := (scaled_neg hx hC hM).2.1
      omega
    · exact (scaled_nonneg hx hC hM).2.trans_lt hhi

/-! ## Frames -/

theorem scale_eq (x : Int) (gC gM : BitVec 32) : scale x gC gM = scaled x gC.toNat gM.toNat := rfl

theorem onFrame_ok {s : State} (hf : s.fatal = none) {size : Nat} {x m : Bytes} (hx : x.length = size) :
    onFrame size x m s = .next { s with ret := .bytes m m.length } := by
  rw [onFrame, if_pos hx, live_of_running hf]
  rfl

theorem word16_bytes (v : BitVec 16) : v.extractLsb' 8 8 ++ v.extractLsb' 0 8 = v := mkField_bytes v

theorem word32_bytes (v : BitVec 32) :
    v.extractLsb' 24 8 ++ v.extractLsb' 16 8 ++ v.extractLsb' 8 8 ++ v.extractLsb' 0 8 = v := by
  have h := Bits.le32_toLE32 v
  rwa [Bits.toLE32_eq, Bits.le32_quad] at h

/-- Settles O57. -/
theorem mixFrameScalesBothSides : Obligations.MixFrameScalesBothSides := by
  intro s gL gR gM hf
  refine ⟨fun a b c d => ?_, fun a b c d e f g h => ?_⟩
  · have hm : mixFrame16 [a, b, c, d] gL gR gM =
        Bits.toLE16 (BitVec.ofInt 16 (scaled (b ++ a : BitVec 16).toInt gL.toNat gM.toNat)) ++
        Bits.toLE16 (BitVec.ofInt 16 (scaled (d ++ c : BitVec 16).toInt gR.toNat gM.toNat)) := by
      rw [mixFrame16, scale_eq, scale_eq, sample16, sample16, Bits.le16_pair]
      show _ ++ Bits.toLE16 (BitVec.ofInt 16 (scaled (Bits.le16 [c, d]).toInt _ _)) = _
      rw [Bits.le16_pair]
    rw [Bits.toLE16_eq, Bits.toLE16_eq] at hm
    refine ⟨_, _, _, _, (onFrame_ok hf rfl).trans (by rw [hm]; rfl), word16_bytes _, word16_bytes _,
      fun hL hR hM => ?_⟩
    rw [word16_bytes, word16_bytes]
    exact ⟨toInt_scaled hL hM, toInt_scaled hR hM⟩
  · have hm : mixFrameWords [a, b, c, d, e, f, g, h] gL gR gM =
        Bits.toLE32 (BitVec.ofInt 32 (scaled (d ++ c ++ b ++ a : BitVec 32).toInt gL.toNat gM.toNat)) ++
        Bits.toLE32 (BitVec.ofInt 32 (scaled (h ++ g ++ f ++ e : BitVec 32).toInt gR.toNat gM.toNat)) := by
      rw [mixFrameWords, scale_eq, scale_eq, sample32, sample32, Bits.le32_quad]
      show _ ++ Bits.toLE32 (BitVec.ofInt 32 (scaled (Bits.le32 [e, f, g, h]).toInt _ _)) = _
      rw [Bits.le32_quad]
    rw [Bits.toLE32_eq, Bits.toLE32_eq] at hm
    have hrun : onFrame 8 [a, b, c, d, e, f, g, h] (mixFrameWords [a, b, c, d, e, f, g, h] gL gR gM) s = _ :=
      onFrame_ok hf rfl
    rw [hm] at hrun
    refine ⟨_, _, _, _, _, _, _, _, ?_, ?_, word32_bytes _, word32_bytes _, fun hL hR hM => ?_⟩
    · exact (congrArg (fun m => onFrame 8 _ m s) hm).trans hrun
    · exact (congrArg (fun m => onFrame 8 _ m s) hm).trans hrun
    · rw [word32_bytes, word32_bytes]
      exact ⟨toInt_scaled hL hM, toInt_scaled hR hM⟩

/-- Whole frames are mapped one by one (46 R384). -/
theorem mapFrames_frames {F : Nat} {g : Bytes → Bytes} (hg : ∀ x : Bytes, x.length = F → (g x).length = F) (nf : Nat) :
    ∀ b : Bytes, nf * F ≤ b.length → (mapFrames F g nf b).length = nf * F ∧
      ∀ j < nf, ((mapFrames F g nf b).drop (j * F)).take F = g ((b.drop (j * F)).take F) := by
  induction nf with
  | zero => exact fun b _ => ⟨by simp [mapFrames], fun j hj => absurd hj (Nat.not_lt_zero j)⟩
  | succ nf ih =>
    intro b hb
    rw [Nat.succ_mul] at hb
    have hhead : (g (b.take F)).length = F := hg _ (by rw [List.length_take]; omega)
    obtain ⟨hlen, hframe⟩ := ih (b.drop F) (by rw [List.length_drop]; omega)
    rw [mapFrames]
    refine ⟨by rw [List.length_append, hhead, hlen, Nat.succ_mul, Nat.add_comm], fun j hj => ?_⟩
    cases j with
    | zero => rw [Nat.zero_mul, List.drop_zero, List.drop_zero, List.take_left' hhead]
    | succ j =>
      have hdrop : (g (b.take F) ++ mapFrames F g nf (b.drop F)).drop ((j + 1) * F)
          = (mapFrames F g nf (b.drop F)).drop (j * F) := by
        rw [List.drop_append, hhead, List.drop_eq_nil_of_le (by rw [hhead, Nat.succ_mul]; omega), List.nil_append]
        congr 1
        rw [Nat.succ_mul]
        omega
      rw [hdrop, hframe j (by omega), List.drop_drop, Nat.succ_mul, Nat.add_comm]

/-- A byte of the mapped frames is a byte of its frame. -/
theorem mapFrames_byte {F nf : Nat} {g : Bytes → Bytes} {b : Bytes}
    (hg : ∀ x : Bytes, x.length = F → (g x).length = F) (hb : nf * F ≤ b.length) {k : Nat}
    (hk : k < (mapFrames F g nf b).length) :
    (mapFrames F g nf b)[k]? = (g ((b.drop (k / F * F)).take F))[k % F]? := by
  obtain ⟨hlen, hframe⟩ := mapFrames_frames hg nf b hb
  rw [hlen] at hk
  have hF : 0 < F := Nat.pos_of_ne_zero fun h => by simp [h] at hk
  have hj : k / F < nf := (Nat.div_lt_iff_lt_mul hF).2 hk
  rw [← hframe _ hj, List.getElem?_take_of_lt (Nat.mod_lt k hF), List.getElem?_drop, Nat.mul_comm, Nat.div_add_mod]

/-- Frames that stay as they are leave the whole frames. -/
theorem mapFrames_id {F : Nat} {g : Bytes → Bytes} (hg : ∀ x : Bytes, x.length = F → g x = x) (nf : Nat) :
    ∀ b : Bytes, nf * F ≤ b.length → mapFrames F g nf b = b.take (nf * F) := by
  induction nf with
  | zero => exact fun b _ => by simp [mapFrames]
  | succ nf ih =>
    intro b hb
    rw [Nat.succ_mul] at hb
    rw [mapFrames, hg _ (by rw [List.length_take]; omega), ih _ (by rw [List.length_drop]; omega), Nat.succ_mul,
      Nat.add_comm (nf * F), List.take_add]

theorem mixFrame_length (f : SampleFormat) (x : Bytes) (gL gR gM : BitVec 32) :
    (mixFrame f x gL gR gM).length = frameBytes f := by cases f <;> rfl

/-- The half of a frame whose gain is 0 is silent (46 R390). -/
theorem mixFrame_silent_left (f : SampleFormat) (x : Bytes) (gR gM : BitVec 32) {i : Nat} (hi : i < frameBytes f / 2) :
    (mixFrame f x 0 gR gM)[i]? = some 0 := by
  have hz : ∀ y, scale y 0 gM = 0 := fun y => scaled_zero y _
  have hwords : ∀ i < 4, (mixFrameWords x 0 gR gM)[i]? = some 0 := fun i hi => by
    rw [mixFrameWords, hz, List.getElem?_append_left hi]
    revert i
    decide
  cases f with
  | s16 =>
    show (mixFrame16 x 0 gR gM)[i]? = some 0
    rw [mixFrame16, hz, List.getElem?_append_left hi]
    revert i
    decide
  | s24 => exact hwords i hi
  | s32 => exact hwords i hi

theorem mixFrame_silent_right (f : SampleFormat) (x : Bytes) (gL gM : BitVec 32) {i : Nat}
    (hlo : frameBytes f / 2 ≤ i) (hi : i < frameBytes f) : (mixFrame f x gL 0 gM)[i]? = some 0 := by
  have hz : ∀ y, scale y 0 gM = 0 := fun y => scaled_zero y _
  have hwords : ∀ i, 4 ≤ i → i < 8 → (mixFrameWords x gL 0 gM)[i]? = some 0 := fun i hlo hi => by
    rw [mixFrameWords, hz, List.getElem?_append_right hlo]
    obtain ⟨j, rfl⟩ := Nat.exists_eq_add_of_le' hlo
    rw [show (Bits.toLE32 _).length = 4 from rfl, Nat.add_sub_cancel]
    have hj : j < 4 := by omega
    clear hlo hi
    revert j
    decide
  cases f with
  | s16 =>
    show (mixFrame16 x gL 0 gM)[i]? = some 0
    obtain ⟨j, rfl⟩ : ∃ j, i = j + 2 := Nat.exists_eq_add_of_le' hlo
    have hj : j < 2 := by simp only [frameBytes] at hi; omega
    rw [mixFrame16, hz, List.getElem?_append_right (Nat.le_add_left 2 j), show (Bits.toLE16 _).length = 2 from rfl,
      Nat.add_sub_cancel]
    clear hlo hi
    revert j
    decide
  | s24 => exact hwords i hlo hi
  | s32 => exact hwords i hlo hi

/-- At unity gain a frame stays as it is (46 R390). -/
theorem mixFrame_unity (f : SampleFormat) {x : Bytes} (hx : x.length = frameBytes f) :
    mixFrame f x Const.gainUnity Const.gainUnity Const.gainUnity = x := by
  have hu : ∀ y, scale y Const.gainUnity Const.gainUnity = y := scaled_unity
  have hwords : ∀ x : Bytes, x.length = 8 →
      mixFrameWords x Const.gainUnity Const.gainUnity Const.gainUnity = x := fun x hx => by
    obtain ⟨a, b, c, d, e, f, g, h, rfl⟩ : ∃ a b c d e f g h, x = [a, b, c, d, e, f, g, h] := by
      match x, hx with
      | [a, b, c, d, e, f, g, h], _ => exact ⟨a, b, c, d, e, f, g, h, rfl⟩
    rw [mixFrameWords, hu, hu, sample32, sample32, BitVec.ofInt_toInt, BitVec.ofInt_toInt, Bits.toLE32_le32]
    exact congrArg _ (Bits.toLE32_le32 e f g h [])
  cases f with
  | s16 =>
    obtain ⟨a, b, c, d, rfl⟩ : ∃ a b c d, x = [a, b, c, d] := by
      match x, hx with
      | [a, b, c, d], _ => exact ⟨a, b, c, d, rfl⟩
    show mixFrame16 _ _ _ _ = _
    rw [mixFrame16, hu, hu, sample16, sample16, BitVec.ofInt_toInt, BitVec.ofInt_toInt, Bits.toLE16_le16]
    exact congrArg _ (Bits.toLE16_le16 c d [])
  | s24 => exact hwords x hx
  | s32 => exact hwords x hx

/-- Mix with the gains of its call (46 R384). -/
theorem mix_eq {c : Config} {ch : Channels} {gL gR gM : BitVec 32} (h : gains c ch = some (gL, gR, gM))
    (f : SampleFormat) (b : Bytes) :
    mix c ch f b = some (mapFrames (frameBytes f) (fun x => mixFrame f x gL gR gM) (b.length / frameBytes f) b) := by
  rw [mix, h]
  rfl

theorem exec_mix {s : State} (hf : s.fatal = none) {f : SampleFormat} {b m : Bytes}
    (h : mix s.cfg.val s.chan f b = some m) : exec (.mix f b) s = .next { s with ret := .bytes m m.length } := by
  have hrun : exec (.mix f b) s = ((Res.ofOption .volumeOutsideTable (mix s.cfg.val s.chan f b) s).latch
    fun m => .bytes m m.length).outcome := live_of_running hf _
  rw [hrun, h]
  rfl

/-- Settles O58. -/
theorem mixMapsFramesAndMutes : Obligations.MixMapsFramesAndMutes := by
  intro s f b hf hv F
  obtain ⟨⟨gL, gR, gM⟩, hg⟩ := gains_isSome s.cfg hv
  obtain ⟨hl, hr, hlv, hrv, hm⟩ := gains_sides hg
  have hF : F = frameBytes f := by cases f <;> rfl
  clear_value F
  subst hF
  have hlen : ∀ x : Bytes, x.length = frameBytes f → (mixFrame f x gL gR gM).length = frameBytes f := fun x _ =>
    mixFrame_length f x gL gR gM
  have hb : b.length / frameBytes f * frameBytes f ≤ b.length := Nat.div_mul_le_self _ _
  obtain ⟨hsize, hframe⟩ := mapFrames_frames hlen (b.length / frameBytes f) b hb
  refine ⟨_, gL, gR, gM, exec_mix hf (mix_eq hg f b), exec_gains hf hg, hsize, ?_⟩
  refine ⟨fun j hj => ?_, fun hmute k hk hside => ?_, fun hmute k hk hside => ?_, fun hall => ?_⟩
  · have hx : ((b.drop (j * frameBytes f)).take (frameBytes f)).length = frameBytes f := by
      have hj' : (j + 1) * frameBytes f ≤ b.length := (Nat.mul_le_mul_right _ hj).trans hb
      rw [List.length_take, List.length_drop]
      rw [Nat.succ_mul] at hj'
      omega
    rw [hframe j hj]
    cases f <;> exact onFrame_ok hf hx
  · rw [mapFrames_byte hlen hb hk, hl hmute]
    exact mixFrame_silent_left f _ gR gM hside
  · have hpos : 0 < frameBytes f := by cases f <;> decide
    rw [mapFrames_byte hlen hb hk, hr hmute]
    exact mixFrame_silent_right f _ gL gM hside (Nat.mod_lt k hpos)
  · have hunity : ∀ {v : BitVec 16} {g : BitVec 32}, v = 0 → lookup s.cfg.val v = some g → g = Const.gainUnity := by
      rintro v g rfl h
      exact (Option.some.inj ((lookup_zero s.cfg).symm.trans h)).symm
    have hM := hunity (hall .master).2 hm
    have hL := hunity (hall .left).2 (hlv (hall .master).1 (hall .left).1)
    have hR := hunity (hall .right).2 (hrv (hall .master).1 (hall .right).1)
    rw [hM, hL, hR]
    exact mapFrames_id (fun x hx => mixFrame_unity f hx) _ b hb

/-! Unpack (45 R354 to R357). -/

theorem exec_returnBytes {s : State} (hf : s.fatal = none) (b : Bytes) :
    returnBytes b s = .next { s with ret := .bytes b b.length } := live_of_running hf _

theorem wholeWords_length (p : Bytes) : (wholeWords p).length = p.length / 4 * 4 := by
  rw [wholeWords, List.length_take, Nat.min_eq_left (Nat.div_mul_le_self _ _)]

theorem ofInt_asr (v : BitVec 32) (n : Nat) : BitVec.ofInt 32 (Bits.asr v.toInt n) = v.sshiftRight n := by
  have hpow : (2 : Int) ^ n = ((2 ^ n : Nat) : Int) := by norm_cast
  rw [Bits.asr, hpow, ← Int.shiftRight_eq_div_pow]
  rfl

/-- The lower bytes of a word shifted right by a byte are its upper ones. -/
theorem sshiftRight_byte (v : BitVec 32) {k : Nat} (hk : k < 3) :
    (v.sshiftRight 8).extractLsb' (8 * k) 8 = v.extractLsb' (8 * (k + 1)) 8 := by
  apply BitVec.eq_of_getLsbD_eq
  intro i hi
  have hin : 8 + (8 * k + i) < 32 := by omega
  rw [BitVec.getLsbD_extractLsb', BitVec.getLsbD_extractLsb', BitVec.getLsbD_sshiftRight, if_pos hin,
    decide_eq_false (by omega : ¬ 32 ≤ 8 * k + i), show 8 + (8 * k + i) = 8 * (k + 1) + i by omega, Bool.not_false,
    Bool.true_and]

/-- The upper byte of a word shifted right by a byte is its sign. -/
theorem sshiftRight_sign (v : BitVec 32) :
    (v.sshiftRight 8).extractLsb' 24 8 = if v.getLsbD 31 then 0xFF else 0x00 := by
  apply BitVec.eq_of_getLsbD_eq
  intro i hi
  rw [apply_ite (BitVec.getLsbD · i), show (0xFF : BitVec 8) = BitVec.allOnes 8 from rfl, BitVec.getLsbD_allOnes]
  simp [BitVec.getLsbD_sshiftRight, BitVec.msb_eq_getLsbD_last, hi]
  grind

/-- A 24-bit container holds its sample in the upper three bytes; the sign fills the fourth (R356). -/
theorem unpackWord24_bytes (w x y z : Byte) :
    unpackWord24 [w, x, y, z] = [x, y, z, if z.getLsbD 7 then 0xFF else 0x00] := by
  obtain ⟨hx, hy, hz⟩ : (z ++ y ++ x ++ w).extractLsb' 8 8 = x ∧ (z ++ y ++ x ++ w).extractLsb' 16 8 = y ∧
      (z ++ y ++ x ++ w).extractLsb' 24 8 = z := by
    refine ⟨?_, ?_, ?_⟩ <;> apply BitVec.eq_of_getLsbD_eq <;> intro i hi <;>
      simp <;> grind
  have hsign : (z ++ y ++ x ++ w).getLsbD 31 = z.getLsbD 7 := by
    have hbit := congrArg (BitVec.getLsbD · 7) hz
    rwa [BitVec.getLsbD_extractLsb'] at hbit
  rw [unpackWord24, sample32, Bits.le32_quad, ofInt_asr, Bits.toLE32_eq, sshiftRight_sign, hsign,
    sshiftRight_byte (k := 0) _ (by decide), sshiftRight_byte (k := 1) _ (by decide),
    sshiftRight_byte (k := 2) _ (by decide), hx, hy, hz]

theorem word_of_length {p : Bytes} {j : Nat} (hj : j < p.length / 4) :
    ∃ w x y z : Byte, (p.drop (j * 4)).take 4 = [w, x, y, z] := by
  have hlen : ((p.drop (j * 4)).take 4).length = 4 := by rw [List.length_take, List.length_drop]; omega
  match (p.drop (j * 4)).take 4, hlen with
  | [w, x, y, z], _ => exact ⟨w, x, y, z, rfl⟩

theorem getElem?_of_word {p : Bytes} {j i : Nat} (hi : i < 4) : p[4 * j + i]? = ((p.drop (j * 4)).take 4)[i]? := by
  rw [List.getElem?_take_of_lt hi, List.getElem?_drop, Nat.mul_comm]

theorem unpack24_words (p : Bytes) : (unpack24 p).length = p.length / 4 * 4 ∧
    ∀ j < p.length / 4, ((unpack24 p).drop (j * 4)).take 4 = unpackWord24 ((p.drop (j * 4)).take 4) :=
  mapFrames_frames (F := 4) (g := unpackWord24) (fun _ _ => rfl) (p.length / 4) p (Nat.div_mul_le_self _ _)

/-- Settles O54. -/
theorem unpackKeepsWholeWords : Obligations.UnpackKeepsWholeWords := by
  intro s p hf
  have hwhole : returnBytes (wholeWords p) s
      = .next { s with ret := .bytes (p.take (p.length / 4 * 4)) (p.length / 4 * 4) } := by
    rw [exec_returnBytes hf, wholeWords_length]
    rfl
  obtain ⟨hlen, hword⟩ := unpack24_words p
  refine ⟨hwhole, hwhole, hwhole, hwhole, unpack24 p, exec_returnBytes hf _, exec_returnBytes hf _, hlen, fun j hj => ?_⟩
  obtain ⟨w, x, y, z, hp⟩ := word_of_length hj
  have hb := hword j hj
  rw [hp, unpackWord24_bytes] at hb
  have hin : ∀ i < 4, p[4 * j + i]? = [w, x, y, z][i]? := fun i hi => by rw [getElem?_of_word hi, hp]
  have hout : ∀ i < 4, (unpack24 p)[4 * j + i]? = [x, y, z, if z.getLsbD 7 then 0xFF else 0x00][i]? := fun i hi => by
    rw [getElem?_of_word hi, hb]
  exact ⟨w, x, y, z, hin 0 (by decide), hin 1 (by decide), hin 2 (by decide), hin 3 (by decide),
    hout 0 (by decide), hout 1 (by decide), hout 2 (by decide), hout 3 (by decide)⟩

end Sys2Proof.Machine
end

section
set_option Elab.async false
/-! PROOFS. Playback: the ticks and ingress (spec/45_playback.md). -/

namespace Sys2Proof.Machine

/-! ## The hardware write buffer -/

/-- The write buffer after a period was written holds that period and nothing beyond it (20 R84). -/
theorem read_period (b : Bytes) (a : Nat) : (Memory.writeN [] 0 b).read a = b[a]? := by
  rw [read_writeN, stored]
  split
  · rfl
  · next h =>
    rw [List.getElem?_eq_none (by omega)]
    rfl

theorem read_silence (n a : Nat) : (Memory.writeN [] 0 (zeros n)).read a = if a < n then some 0 else none := by
  rw [read_period, zeros, List.getElem?_replicate]

theorem freeBytes_length (k n : Nat) : (freeBytes k n).length = n := by
  induction n generalizing k with
  | zero => rfl
  | succ n ih => rw [freeBytes, List.length_cons, ih]

theorem drvWrite_eq (b : Bytes) (s : State) :
    drvWrite b s = { s with hwbuf := Memory.writeN [] 0 b, trace := s.trace ++ [.drvWrite b] } := rfl

/-- After one period of silence was written. -/
def silenced (f : SampleFormat) (s : State) : State := { s with
  hwbuf := Memory.writeN [] 0 (zeros (s.periodBytes f))
  trace := s.trace ++ [.drvWrite (List.replicate (s.periodBytes f) 0)] }

theorem writeSilence_ok {s : State} {f : SampleFormat} (h : s.format = some f) :
    writeSilence s = .ok () (silenced f s) := by
  rw [writeSilence, h]
  rfl

/-! ## The ticks that read no sample -/

theorem playbackTick_stopped {s : State} (h : s.pstate = .stopped) : playbackTick s = stoppedTick s := by
  rw [playbackTick, h]

theorem playbackTick_buffering {s : State} (h : s.pstate = .buffering) : playbackTick s = bufferingTick s := by
  rw [playbackTick, h]

theorem playbackTick_playing {s : State} (h : s.pstate = .playing) : playbackTick s = playingTick s := by
  rw [playbackTick, h]

theorem playbackTick_stalled {s : State} (h : s.pstate = .stalled) : playbackTick s = stalledTick s := by
  rw [playbackTick, h]

theorem playingTick_eq (s : State) : playingTick s =
    if s.bufferReady = true then playPeriod { s with bufferReady := false } else .ok () { s with bufferReady := false } :=
  rfl

theorem stalledTick_recovers {s : State} (h : 2 * s.rb.size ≤ 5 * ringCount s.rb) :
    stalledTick s = .ok () { s with pstate := .playing } := if_pos (decide_eq_true h)

theorem stalledTick_below {s : State} (h : 5 * ringCount s.rb < 2 * s.rb.size) :
    stalledTick s = if s.bufferReady = true then writeSilence { s with bufferReady := false }
      else .ok () { s with bufferReady := false } :=
  if_neg (by rw [atRecovery, decide_eq_true_eq]; omega)

theorem playPeriod_underrun {s : State} {f : SampleFormat} (h : 25 * ringCount s.rb ≤ 4 * s.rb.size)
    (hfmt : s.format = some f) : playPeriod s = .ok () { s with
      steadyFill := fillRatio s.rb, pstate := .stalled, ledFast := true
      hwbuf := Memory.writeN [] 0 (zeros (s.periodBytes f))
      trace := s.trace ++ [.drvWrite (List.replicate (s.periodBytes f) 0), .ledFast] } := by
  have hlow : atUnderrun s.rb = true := decide_eq_true h
  simp only [playPeriod, hlow, if_true, writeSilence_ok (s := { s with steadyFill := fillRatio s.rb }) hfmt, bind_ok]
  simp only [silenced, emit, List.append_assoc, List.cons_append, List.nil_append]
  rfl

/-- Settles O50. -/
theorem ticksWithoutMixing : Obligations.TicksWithoutMixing := by
  intro s hf count
  have htick : exec .tick s = (playbackTick s).outcome := live_of_running hf _
  refine ⟨fun hp => ?_, fun hp => ?_, fun hp => ?_, fun hp => ?_⟩ <;> rw [htick]
  · rw [playbackTick_stopped hp]
    exact ⟨rfl, (selected_of hf (decide_eq_true hp) _).trans rfl⟩
  · have hrow : exec .tickBuffering s = (bufferingTick s).outcome := selected_of hf (decide_eq_true hp) _
    rw [hrow, playbackTick_buffering hp]
    refine and_self_iff.2 ?_
    rw [bufferingTick, atSafeLevel]
    by_cases h : s.rb.size ≤ 2 * ringCount s.rb
    · rw [if_pos (decide_eq_true h)]
      simp only [count, h, if_true]
      simp [emit, Res.outcome]
    · rw [if_neg (by simpa using h)]
      simp only [count, h, if_false]
      rfl
  · have hrow : exec .tickStalled s = (stalledTick s).outcome := selected_of hf (decide_eq_true hp) _
    rw [hrow, playbackTick_stalled hp]
    refine ⟨rfl, fun h => ?_, fun h hr => ?_, fun h hr f hfmt => ?_⟩
    · refine and_self_iff.2 ?_
      rw [stalledTick_recovers h]
      rfl
    · rw [stalledTick_below h, if_neg (by simp [hr]), ← hr]
      rfl
    · rw [stalledTick_below h, if_pos hr, writeSilence_ok (f := f) (by exact hfmt)]
      exact ⟨silenced f { s with bufferReady := false }, rfl, rfl, read_silence _⟩
  · have hrow : exec .tickPlaying s = (playingTick s).outcome := selected_of hf (decide_eq_true hp) _
    rw [hrow, playbackTick_playing hp]
    refine ⟨rfl, fun hr => ?_, fun hr h f hfmt => ?_⟩
    · rw [playingTick_eq, if_neg (by simp [hr]), ← hr]
      rfl
    · rw [playingTick_eq, if_pos hr, playPeriod_underrun (f := f) (by exact h) (by exact hfmt)]
      exact ⟨_, rfl, rfl, read_silence _⟩

/-! ## The tick that mixes -/

theorem mix_isSome (c : WfConfig) {ch : Channels} (h : VolumesInTable ch) (f : SampleFormat) (b : Bytes) :
    ∃ m, mix c.val ch f b = some m ∧ m.length ≤ b.length := by
  obtain ⟨⟨gL, gR, gM⟩, hg⟩ := gains_isSome c h
  have hb : b.length / frameBytes f * frameBytes f ≤ b.length := Nat.div_mul_le_self _ _
  exact ⟨_, mix_eq hg f b, (mapFrames_frames (fun x _ => mixFrame_length f x gL gR gM) _ b hb).1.trans_le hb⟩

theorem playPeriod_mixes {s v : State} {f : SampleFormat} {b m : Bytes} (hlevel : 4 * s.rb.size < 25 * ringCount s.rb)
    (hfmt : s.format = some f) (hread : ringRead (s.periodBytes f) { s with steadyFill := fillRatio s.rb } = .ok b v)
    (hm : mix s.cfg.val s.chan f b = some m) : playPeriod s = .ok () (writeMixed f m v) := by
  have hv := ringRead_rb hread
  have hcfg : v.cfg = s.cfg := by rw [hv]
  have hchan : v.chan = s.chan := by rw [hv]
  have habove : ¬ atUnderrun s.rb = true := by rw [atUnderrun, decide_eq_true_eq]; omega
  have hread' : ringRead (State.periodBytes { s with steadyFill := fillRatio s.rb } f)
      { s with steadyFill := fillRatio s.rb } = .ok b v := hread
  unfold playPeriod
  dsimp only
  rw [if_neg habove]
  split
  · next h => exact absurd (hfmt.symm.trans h) (by simp)
  · next g h =>
    obtain rfl : f = g := Option.some.inj (hfmt.symm.trans h)
    rw [hread', bind_ok, hcfg, hchan, hm]
    rfl

/-- Settles O51. -/
theorem playingTickMixesOnePeriod : Obligations.PlayingTickMixesOnePeriod := by
  intro s f hf hp hr hfmt hok hfill hlevel hv
  obtain ⟨b, v, hread⟩ := ringRead_total (s.periodBytes f)
    (s := { s with bufferReady := false, steadyFill := fillRatio s.rb }) hok hfill
  obtain ⟨hb, -, hrest⟩ := ringRead_eq_ok hread
  obtain ⟨-, -, hcontent⟩ := ringRead_read (by exact hok) hread
  obtain ⟨m, hm, hml⟩ := mix_isSome s.cfg hv f b
  have hperiod : playPeriod { s with bufferReady := false } = .ok () (writeMixed f m v) :=
    playPeriod_mixes hlevel hfmt hread hm
  have htick : playingTick s = .ok () (writeMixed f m v) := by
    rw [playingTick_eq, if_pos hr]
    exact hperiod
  have hrow : exec .tickPlaying s = .next (writeMixed f m v) :=
    (selected_of hf (decide_eq_true hp) _).trans (congrArg Res.outcome htick)
  have hstim : exec .tick s = .next (writeMixed f m v) := by
    have hrun : exec .tick s = (playbackTick s).outcome := live_of_running hf _
    rw [hrun, playbackTick_playing hp]
    exact congrArg Res.outcome htick
  refine ⟨_, b, m, freeBytes s.freeCount (s.periodBytes f - m.length), hrow, hstim, hb, ?_, exec_mix hf hm, ?_, ?_, ?_⟩
  · exact hcontent
  · rw [List.length_append, freeBytes_length]
    have := hml.trans (hb.trans_le (min_le_left _ _))
    exact Nat.add_sub_of_le this
  · rw [freeBytes_length, hrest]
    rfl
  · intro a
    rw [hrest]
    exact read_period _ a

/-! ## Ingress -/

/-- The ring after `b` was appended as far as it fits, and the fill measured unless playing (45 R348). -/
theorem onSamplesReceived_ok {s : State} (hok : RingOk s.rb) (b : Bytes) : ∃ t, onSamplesReceived b s = .ok () t ∧
    t = { s with rb := t.rb, steadyFill := t.steadyFill } ∧
    ringContent t.rb = ringContent s.rb ++ (b.take (s.rb.size - ringCount s.rb)).map some ∧ t.rb.size = s.rb.size ∧
    t.steadyFill = if s.pstate = .playing then s.steadyFill else (ringCount t.rb : Rat) / (t.rb.size : Rat) := by
  obtain ⟨k, v, hw⟩ := ringWrite_total (s := s) hok (le_refl b.length)
  obtain ⟨-, hk, m, -, hv⟩ := ringWrite_eq_ok hw
  have hcontent := (ringWrite_wrote hok hw).content
  have htake : b.take k = b.take (s.rb.size - ringCount s.rb) := by
    rw [List.take_eq_take_iff, hk, ringSpace]
    omega
  rw [htake] at hcontent
  have hsize : v.rb.size = s.rb.size := by rw [hv]
  have hps : v.pstate = s.pstate := by rw [hv]
  refine ⟨_, by rw [onSamplesReceived, hw]; rfl, ?_⟩
  rw [hps]
  split
  · refine ⟨?_, hcontent, hsize, ?_⟩ <;> rw [hv]
  · exact ⟨by rw [hv], hcontent, hsize, rfl⟩

/-- Settles O53. -/
theorem ingressFillsTheRing : Obligations.IngressFillsTheRing := by
  refine ⟨fun s b hf hok => ?_, fun s len f payload hf hok hfmt hin hbytes => ?_⟩
  · obtain ⟨t, ht, h⟩ := onSamplesReceived_ok hok b
    exact ⟨t, (live_of_running hf _).trans (congrArg Res.outcome ht), h⟩
  · obtain ⟨u, hu, hrest, -⟩ := onSamplesReceived_ok hok (unpack f payload)
    have hep : ∀ n d, u.ep n d = s.ep n d := fun n d => by rw [hrest]; rfl
    have hcfg : u.cfg = s.cfg := by rw [hrest]
    have htrace : u.trace = s.trace := by rw [hrest]
    obtain ⟨r, t, ht, htrest, htep⟩ := streamTransfer_ok u
    rw [hcfg, htrace] at htrest
    simp only [hcfg, hep] at ht htrest htep
    have hdone : onStreamOutDone len s = .ok () t := by
      rw [onStreamOutDone, memRead_ok (sp := .epbuf) (s := s) hin hbytes, bind_ok, hfmt]
      dsimp only
      rw [hu, bind_ok, hep, ht]
      rfl
    refine ⟨u, t, (live_of_running hf _).trans (congrArg Res.outcome hu),
      (live_of_running hf _).trans (congrArg Res.outcome hdone), htep, ?_⟩
    have hepIn : t.epIn = u.epIn := by rw [htrest]
    exact htrest.trans (by rw [hepIn, hcfg])

end Sys2Proof.Machine
end

section
set_option Elab.async false
/-! PROOFS. Where operands and states stop an operation. -/

namespace Sys2Proof.Machine

theorem live_refused {s : State} (hf : s.fatal = none) {r : Res Unit} {e : Refusal} (h : r = .refused e) :
    live s r = .refused e := by rw [live_of_running hf, h]; rfl

theorem live_fault {s : State} (hf : s.fatal = none) {r : Res Unit} {e : Fault} (h : r = .fault e) :
    live s r = .fault e := by rw [live_of_running hf, h]; rfl

/-- A row whose selector does not hold is refused (log entry 18). -/
theorem not_selected {s : State} (hf : s.fatal = none) {p : Prop} [Decidable p] (h : ¬ p) (r : Res Unit) :
    selected (decide p) s r = .refused .notSelected :=
  live_refused hf (if_neg (by simpa using h))

/-! ## Memory -/

theorem memRead_outside {sp : Space} {a n : Nat} {s : State} (hn : n ≠ 0) (h : s.spaceSize sp < a + n) :
    memRead sp a n s = .fault (.outOfSpace sp) := if_neg (by omega)

theorem memRead_unwritten {sp : Space} {a n : Nat} {s : State} (h : a + n ≤ s.spaceSize sp)
    (hb : (s.mem sp).readN a n = none) : memRead sp a n s = .fault (.unwrittenByte sp) := by
  rw [memRead, if_pos (.inr h), hb]

theorem memWrite_outside {sp : Space} {a : Nat} {b : Bytes} {s : State} (hb : b.length ≠ 0)
    (h : s.spaceSize sp < a + b.length) : memWrite sp a b s = .fault (.outOfSpace sp) := if_neg (by omega)

/-! ## Transfers and playback -/

section
variable {s : State} {n : Fin 16} {buffer : Bytes} {length : Nat}

theorem startTransfer_short (he : (s.ep n .IN).enabled = true) (hl : length ≤ (s.ep n .IN).maxPacketSize)
    (hb : buffer.length < length) : startTransfer n .IN buffer length s = .refused .shortBuffer := by
  have hcopy : copyToEndpoint n .IN buffer length s = .refused .shortBuffer := if_pos hb
  rw [startTransfer_carries he hl, hcopy]
  rfl

theorem startTransfer_outside (he : (s.ep n .IN).enabled = true) (hl : length ≤ (s.ep n .IN).maxPacketSize)
    (hb : length ≤ buffer.length) (hn : n ≠ 0) (hpos : 0 < length)
    (hout : s.cfg.val.sharedCapacity < (s.ep n .IN).bufferAddress + length) :
    startTransfer n .IN buffer length s = .fault (.outOfSpace .epbuf) := by
  have hlen : (buffer.take length).length = length := by rw [List.length_take, Nat.min_eq_left hb]
  have hcopy : copyToEndpoint n .IN buffer length s = .fault (.outOfSpace .epbuf) := by
    simp only [copyToEndpoint, Nat.not_lt.2 hb, hn, if_false]
    exact memWrite_outside (by omega) (by rw [hlen]; exact hout)
  rw [startTransfer_carries he hl, hcopy]
  rfl
end

theorem playPeriod_noFormat {s : State} (h : s.format = none) : playPeriod s = .refused .noFormat := by
  unfold playPeriod
  dsimp only
  split
  · simp only [writeSilence, h]
    rfl
  · rw [h]

/-- A Playing tick above the underrun level whose volumes are outside the table (46 R379). -/
theorem playingTick_outsideTable {s : State} (hr : s.bufferReady = true) (hfmt : s.format ≠ none) (hok : RingOk s.rb)
    (hfill : RingFilled s.rb) (hlevel : 4 * s.rb.size < 25 * ringCount s.rb) (hg : gains s.cfg.val s.chan = none) :
    playingTick s = .refused .volumeOutsideTable := by
  obtain ⟨f, hf⟩ := Option.ne_none_iff_exists'.1 hfmt
  obtain ⟨b, v, hread⟩ := ringRead_total (s.periodBytes f)
    (s := { s with bufferReady := false, steadyFill := fillRatio s.rb }) hok hfill
  have hv := ringRead_rb hread
  have hmix : mix v.cfg.val v.chan f b = none := by
    rw [hv, mix]
    exact congrArg _ hg
  have habove : ¬ atUnderrun s.rb = true := by rw [atUnderrun, decide_eq_true_eq]; omega
  rw [playingTick_eq, if_pos hr]
  unfold playPeriod
  dsimp only
  rw [if_neg habove]
  split
  · next h => exact absurd h hfmt
  · next g h =>
    obtain rfl : f = g := Option.some.inj (hf.symm.trans h)
    have hread' : ringRead (State.periodBytes { s with bufferReady := false, steadyFill := fillRatio s.rb } f)
        { s with bufferReady := false, steadyFill := fillRatio s.rb } = .ok b v := hread
    rw [hread', bind_ok, hmix]
    rfl

/-- Settles O60. -/
theorem operandsOutsideTheirRuleStop : Obligations.OperandsOutsideTheirRuleStop := by
  intro s hf
  have hstops : ∀ {r : Res Unit} {p : Prop} [Decidable p], ¬ p → selected (decide p) s r = .refused .notSelected :=
    fun h => not_selected hf h _
  have hout : ∀ len, s.ctrlPhase = .dataOut → exec (.ep0OutDoneData len) s = (ep0OutData len s).outcome := fun len h =>
    selected_of hf (decide_eq_true h) _
  have htick : s.pstate = .playing → exec .tick s = (playingTick s).outcome ∧
      exec .tickPlaying s = (playingTick s).outcome := fun h =>
    ⟨by rw [← playbackTick_playing h]; exact live_of_running hf _, selected_of hf (decide_eq_true h) _⟩
  refine ⟨fun buf len h => live_refused hf (if_pos h), fun data n h => ?_, fun n buffer length he hl => ⟨fun h => ?_,
    fun hb hn hpos hspace => ?_⟩, fun e h => live_refused hf (by rw [enableEndpoint, h]),
    fun x gL gR gM => ⟨fun h => live_refused hf (if_neg h), fun h => ⟨live_refused hf (if_neg h),
      live_refused hf (if_neg h)⟩⟩, fun len => ⟨hstops, hstops, hstops, fun h hlen => ?_, fun h hlen hb => ?_,
      fun h hlen hb hq => ?_⟩, hstops, hstops, hstops, hstops, fun hp hr h => ?_, fun hv => ?_⟩
  · have hw : ringWrite data n s = .refused .shortBuffer := if_pos h
    exact live_refused hf (by rw [hw]; rfl)
  · exact live_refused hf (by rw [startTransfer_short he hl h]; rfl)
  · exact live_fault hf (by rw [startTransfer_outside he hl hb hn hpos hspace]; rfl)
  · rw [hout len h, ep0OutData, memRead_outside (by omega) (by show 64 < 0 + len; omega)]
    rfl
  · rw [hout len h, ep0OutData, memRead_unwritten (sp := .ep0out) (s := s) (by show 0 + len ≤ 64; omega) hb]
    rfl
  · obtain ⟨b, hb⟩ := Option.ne_none_iff_exists'.1 hb
    rw [hout len h, ep0OutData, memRead_ok (sp := .ep0out) (s := s) (by show 0 + len ≤ 64; omega) hb, bind_ok, hq]
    rfl
  · rw [(htick hp).1, playingTick_eq, if_pos hr, playPeriod_noFormat (by exact h)]
    rfl
  · have hg : gains s.cfg.val s.chan = none := gains_eq_none hv
    refine ⟨fun f b => live_refused hf ?_, fun hp hr hfmt hok hfill hlevel => ?_⟩
    · rw [mix, hg]
      rfl
    · rw [(htick hp).1, (htick hp).2, playingTick_outsideTable hr hfmt hok hfill hlevel hg]
      exact ⟨rfl, rfl⟩

end Sys2Proof.Machine
end

section
set_option Elab.async false
/-! PROOFS. Every setup packet is answered (spec/40_control_dispatch.md R171, spec/60_exceptions.md R454). -/

namespace Sys2Proof.Machine

/-! ## How a request ends -/

/-- The state a request is dispatched in: nothing halted, stalled or in progress, and the engine ready. -/
structure Accepted (s : State) : Prop where
  fatal   : s.fatal = none
  running : s.ep0Stalled = false
  phase   : s.ctrlPhase = .idle
  ready   : UsbReady s

/-- What the handling of a request keeps so that it can be answered. -/
structure RequestKept (s t : State) : Prop where
  setup   : t.setup = s.setup
  fatal   : t.fatal = s.fatal
  running : t.ep0Stalled = s.ep0Stalled
  enabled : (s.ep 0 .IN).enabled = true → (t.ep 0 .IN).enabled = true

theorem RequestKept.trans {s t u : State} (h : RequestKept s t) (k : RequestKept t u) : RequestKept s u :=
  ⟨k.setup.trans h.setup, k.fatal.trans h.fatal, k.running.trans h.running, fun he => k.enabled (h.enabled he)⟩

/-- A request dispatched in `s` ends in one of the ways of R171; a stall leaves all else as it was, unless `excepted`. -/
def RequestAnswered (excepted : Prop) (s : State) (r : Res Unit) : Prop :=
  ∃ t, r.outcome = .next t ∧ t.setup = s.setup ∧
    ((t.fatal = none ∧ t.ep0Stalled = false ∧
        (t.ctrlPhase = .dataIn ∨ t.ctrlPhase = .statusIn ∨ t.ctrlPhase = .dataOut)) ∨
     (t.fatal = none ∧ t.ep0Stalled = true ∧ t.ctrlPhase = .idle ∧
        ({ t with freeCount := s.freeCount } = stalled s ∨ excepted)) ∨
     (t.fatal ≠ none ∧ t.ep0Stalled = false ∧ t.ctrlPhase = .idle))

theorem acceptSetup_accepted {s : State} (p : SetupPacket) (hf : s.fatal = none) (hr : UsbReady s) :
    Accepted (acceptSetup p s) := by
  have hsame : SameEndpoints s (acceptSetup p s) := run_related (A := Act .any) (R := SameEndpoints)
    SameEndpoints.refl SameEndpoints.trans act_sameEndpoints (acceptSetup_does p s)
  obtain ⟨hserved, hlayout⟩ := usbReady_iff.1 hr
  refine ⟨hf, rfl, rfl, usbReady_iff.2 ⟨hsame.served hserved, fun ha => ?_⟩⟩
  rw [hsame.active] at ha
  rw [hsame.cfg, hsame.layout]
  exact hlayout ha

section
variable {x : Prop} {s v t : State} {r : Res Unit}

/-- The data stage of a reply. -/
theorem answered_dataStage (hs : Accepted s) (h : r.outcome = .next t) {b : Bytes} {n k : Nat}
    (hd : DataStageStarted b n { s with freeCount := k } t) : RequestAnswered x s r := by
  have ht := hd.1
  refine ⟨t, h, ?_, .inl ⟨?_, ?_, .inl ?_⟩⟩ <;> rw [ht]
  · rfl
  · exact hs.fatal
  · exact hs.running
  · rfl

/-- A stall that drew at most free values. -/
theorem answered_stalled (hs : Accepted s) {k : Nat} (h : r.outcome = .next (stalled { s with freeCount := k })) :
    RequestAnswered x s r := ⟨_, h, rfl, .inr (.inl ⟨hs.fatal, rfl, rfl, .inl rfl⟩)⟩

theorem answered_stall (hs : Accepted s) : RequestAnswered x s (stall s) := answered_stalled hs (k := s.freeCount) rfl

/-- The status stage. -/
theorem answered_acked (hs : Accepted s) (hv : RequestKept s v) (h : r.outcome = .next (acked v)) :
    RequestAnswered x s r :=
  ⟨_, h, hv.setup, .inl ⟨hv.fatal.trans hs.fatal, hv.running.trans hs.running, .inr (.inl rfl)⟩⟩

theorem answered_ack (hs : Accepted s) (hv : RequestKept s v) : RequestAnswered x s (ack v) :=
  answered_acked hs hv (congrArg Res.outcome (ack_eq_ok (hv.enabled hs.ready.ep0.inEnabled)))

/-- The end of SET_CONFIGURATION and SET_INTERFACE. -/
theorem answered_ackOrStall (hs : Accepted s) (hv : RequestKept s v) (hx : x) (b : Bool) :
    RequestAnswered x s (ackOrStall b v) := by
  cases b with
  | true => exact answered_ack hs hv
  | false => exact ⟨_, rfl, hv.setup, .inr (.inl ⟨hv.fatal.trans hs.fatal, rfl, rfl, .inr hx⟩)⟩

theorem answered_reply (hs : Accepted s) (b : Bytes) (l : BitVec 16) : RequestAnswered x s (replyIn (some b) l s) := by
  obtain ⟨t, ht, hd⟩ := replyIn_ok hs.ready.ep0 b l
  exact answered_dataStage hs (k := s.freeCount) (congrArg Res.outcome ht) hd

theorem answered_ctrlInStart (hs : Accepted s) {b : Bytes} {n : Nat} (hn : n ≤ b.length) :
    RequestAnswered x s (ctrlInStart b n s) := by
  obtain ⟨t, ht, hd⟩ := ctrlInStart_ok hs.ready.ep0 hn
  exact answered_dataStage hs (k := s.freeCount) (congrArg Res.outcome ht) hd

end

/-! ## Class and vendor requests -/

section
variable {x : Prop} {s : State} (hs : Accepted s) (p : SetupPacket)
include hs

theorem classIn_answered : RequestAnswered x s (classIn p s) := by
  obtain ⟨t, ht, h⟩ := classIn_answers hs.ready.ep0 p
  obtain ⟨k, hk⟩ : ∃ k, (inAnswer p s).2 = { s with freeCount := k } := by
    unfold inAnswer
    split
    · exact ⟨s.freeCount, rfl⟩
    · exact ⟨s.freeCount, rfl⟩
    · exact ⟨_, rfl⟩
  rw [InAnswered, hk] at h
  split at h
  · subst h
    exact answered_stalled hs ht
  · exact answered_dataStage hs ht h

theorem classOut0_answered : RequestAnswered x s (classOut0 p s) := by
  obtain ⟨t, ht, hno, hac, hext⟩ := classOut0_answers hs.ready.ep0.inEnabled p
  cases hh : s.cfg.val.hasOutHandler p.slot with
  | false =>
    obtain rfl := hno hh
    exact answered_stalled hs (k := s.freeCount) ht
  | true =>
    by_cases hslot : p.slot = s.cfg.val.acIf
    · obtain rfl := hac hslot
      exact answered_stalled hs (k := s.freeCount) ht
    · obtain rfl := hext hh hslot
      rw [outAnswer, if_neg hslot, answered] at ht
      cases hb : Config.extOut s.freeCount p.slot p [] with
      | true =>
        rw [hb] at ht
        exact answered_acked hs (v := { s with freeCount := s.freeCount + 1 }) ⟨rfl, rfl, rfl, fun h => h⟩ ht
      | false =>
        rw [hb] at ht
        exact answered_stalled hs ht

theorem classOut_answered : RequestAnswered x s (classOut p s) := by
  have ht := classOut_captures hs.ready.ep0 p
  unfold captured at ht
  split at ht
  · split at ht
    · exact ⟨_, ht, rfl, .inr (.inr ⟨by simp, hs.running, hs.phase⟩)⟩
    · exact ⟨_, ht, rfl, .inl ⟨hs.fatal, hs.running, .inr (.inr rfl)⟩⟩
  · exact answered_stalled hs (k := s.freeCount) ht

end

/-! ## The requests that change the endpoints -/

theorem streamingCallback_kept {s : State} (a : BitVec 16) (hfit : FbFits s) :
    ∃ b t, streamingCallback a s = .ok b t ∧ RequestKept s t := by
  obtain ⟨b, t, ht, -, he⟩ := streamingCallback_ok a hfit
  refine ⟨b, t, ht, ?_⟩
  by_cases ha : a = 0
  · obtain rfl : streamStop s = t := by
      rw [streamingCallback, if_pos ha] at ht
      exact (Res.ok.inj ht).2
    exact ⟨rfl, rfl, rfl, fun h => h⟩
  · cases hf : altFormat s.cfg.val a with
    | none =>
      rw [streamingCallback, if_neg ha, hf] at ht
      obtain rfl := (Res.ok.inj ht).2
      exact ⟨rfl, rfl, rfl, fun h => h⟩
    | some f =>
      obtain ⟨t', ht', hrest, -⟩ := streamingCallback_starts ha hf hfit
      obtain rfl : t' = t := (Res.ok.inj (ht'.symm.trans ht)).2
      refine ⟨?_, ?_, ?_, fun h => he.trans h⟩ <;> rw [hrest] <;> rfl

theorem invokeCallback_kept {s : State} (i a : BitVec 16) (hfit : FbFits s) :
    ∃ b t, invokeCallback i a s = .ok b t ∧ RequestKept s t := by
  unfold invokeCallback
  split
  · exact ⟨true, s, rfl, rfl, rfl, rfl, fun h => h⟩
  · exact streamingCallback_kept a hfit
  · exact ⟨_, _, rfl, rfl, rfl, rfl, fun h => h⟩

/-- A switch answers; what it leaves is ready for the callback (43 R290). -/
theorem setAlternateSetting_kept {s : State} (i a : BitVec 16) (hr : UsbReady s) :
    ∃ b t, setAlternateSetting i a s = .ok b t ∧ RequestKept s t ∧ UsbReady t ∧ (b = false → t = s) := by
  by_cases h0 : s.activeConfig = 0
  · exact ⟨false, s, if_pos h0, ⟨rfl, rfl, rfl, fun h => h⟩, hr, fun _ => rfl⟩
  cases ha : hasAlt s.cfg.val i.toNat a.toNat with
  | false =>
    exact ⟨false, s, by rw [setAlternateSetting, if_neg h0, if_pos ha], ⟨rfl, rfl, rfl, fun h => h⟩, hr, fun _ => rfl⟩
  | true =>
    obtain ⟨t, ht, hrest, -⟩ := setAlternateSetting_ok h0 ha hr.layout
    obtain ⟨hserved, hlayout⟩ := setAlternateSetting_served grants_fits (usbReady_iff.1 hr) ht
    refine ⟨true, t, ht, ⟨?_, ?_, ?_, fun _ => (hserved.ep0 .IN).1⟩, usbReady_iff.2 ⟨hserved, hlayout⟩,
      fun h => by cases h⟩ <;> rw [hrest]

/-- With nothing active, whatever is said to be active and laid out. -/
theorem deactivate_kept (s : State) (lay : List (Nat × Nat)) (n : Byte) :
    RequestKept s { deactivate s with bufLayout := lay, activeConfig := n } ∧
      (deactivate s).ctrlPhase = s.ctrlPhase ∧ RequestKept s (deactivate s) := by
  have hkept := deactivate_engineKept s
  have heq := deactivate_eq s
  generalize deactivate s = u at hkept heq ⊢
  have hk : RequestKept s u := by
    refine ⟨?_, hkept.fatal, ?_, hkept.enabled .IN⟩ <;> rw [heq]
  exact ⟨⟨hk.setup, hk.fatal, hk.running, hk.enabled⟩, by rw [heq], hk⟩

/-- An activation answers, or ends in the fatal fault of a layout that does not fit (43 R284, R286). -/
theorem activateConfiguration_kept (n : Byte) (s : State) :
    (∃ b t, activateConfiguration n s = .ok b t ∧ RequestKept s t) ∨
    (∃ t, activateConfiguration n s = .ended t ∧ t.fatal ≠ none ∧ t.setup = s.setup ∧ t.ep0Stalled = s.ep0Stalled ∧
      t.ctrlPhase = s.ctrlPhase) := by
  obtain ⟨hk, hphase, hk0⟩ := deactivate_kept s (layoutOf s.cfg.val []).1 n
  have hcfg := deactivate_cfg s
  by_cases h0 : n = 0
  · exact .inl ⟨true, deactivate s, by rw [activateConfiguration, if_neg (by simp [h0]), if_pos h0], hk0⟩
  by_cases hv : n = s.cfg.val.configValue
  · have hact := activateConfiguration_layout h0 hv
    generalize deactivate s = u at hk hk0 hcfg hphase hact
    rcases hact with ⟨-, h⟩ | ⟨-, h⟩ <;> rw [h]
    · obtain ⟨t, done, b, ht, hwalk⟩ := activateInterfaces_walks s.cfg (interfacesOf s.cfg.val)
        (s := { u with bufLayout := (layoutOf s.cfg.val []).1, activeConfig := n }) hcfg rfl
      have hrest := hwalk.rest
      refine .inl ⟨b, t, ht, hk.trans ⟨?_, ?_, ?_, ?_⟩⟩
      · rw [hrest]
      · rw [hrest]
      · rw [hrest]
      · have hep : t.ep 0 .IN = _ := hwalk.others 0 .IN fun i _ hlisted => by
          obtain ⟨e, he, h, -⟩ := hlisted
          exact item_number_ne_zero s.cfg (mem_itemsOf he) h
        rw [hep]
        exact fun h => h
    · exact .inr ⟨_, rfl, Option.some_ne_none _, hk0.setup, hk0.running, hphase⟩
  · exact .inl ⟨false, s, if_pos ⟨h0, hv⟩, rfl, rfl, rfl, fun h => h⟩

section
variable {x : Prop} {s : State} (hs : Accepted s)
include hs

theorem setInterface_answered (i a : BitVec 16) (hx : x) : RequestAnswered x s (setInterface i a s) := by
  obtain ⟨b, u, hu, hk, hready, hfail⟩ := setAlternateSetting_kept i a hs.ready
  rw [setInterface, hu, bind_ok]
  cases b with
  | false =>
    obtain rfl := hfail rfl
    exact answered_stall hs
  | true =>
    obtain ⟨b, t, ht, hkt⟩ := invokeCallback_kept i a hready.fit.fbFits
    rw [if_pos rfl, ht, bind_ok]
    exact answered_ackOrStall hs (hk.trans hkt) hx b

theorem setConfiguration_answered (a : BitVec 16) (hx : x) : RequestAnswered x s (setConfiguration a s) := by
  rw [setConfiguration]
  rcases activateConfiguration_kept (configurationOf a) s with ⟨b, t, ht, hk⟩ | ⟨t, ht, hf, hset, hrun, hphase⟩
  · rw [ht, bind_ok]
    exact answered_ackOrStall hs hk hx b
  · rw [ht, bind_ended]
    exact ⟨t, rfl, hset, .inr (.inr ⟨hf, hrun.trans hs.running, hphase.trans hs.phase⟩)⟩

theorem epClear_answered : RequestAnswered x s (epClear s) := by
  cases hc : s.cfg.val.clearEffect with
  | reference =>
    obtain ⟨u, hu, hcl⟩ := epClear_reference hc hs.ready.ep0.inEnabled hs.ready.fit.fbFits
    have hrest := hcl.rest
    refine answered_acked hs (v := u) ⟨?_, ?_, ?_, fun h => (hcl.keeps 0 .IN).1.trans h⟩
      (congrArg Res.outcome hu) <;> rw [hrest]
  | custom k =>
    rw [epClear_custom hc]
    cases hplan : Config.clearPlan k s.device with
    | none => exact answered_stall hs
    | some l =>
      obtain ⟨u, hu, hframe⟩ := clearActions_total hs.ready.ep0 hs.ready.fit l
      have hrest := hframe.rest
      dsimp only
      rw [hu, bind_ok]
      refine answered_ack hs ⟨?_, ?_, ?_, fun _ => (hframe.ready hs.ready.ep0 hs.ready.fit).1.inEnabled⟩ <;> rw [hrest]

end

/-! ## Dispatch -/

/-- The two requests whose stall may leave more behind (60 R454). -/
abbrev ReconfiguringRequest (p : SetupPacket) : Prop :=
  p.type = Code.typeStandard ∧ (p.request = Code.setConfiguration ∨ p.request = Code.setInterface)

section
variable {s : State} (hs : Accepted s) (p : SetupPacket)
include hs

theorem dispatchDeviceIn_answered {x : Prop} : RequestAnswered x s (dispatchDeviceIn p s) := by
  have hdev : min p.length.toNat Const.deviceDescLen ≤ s.cfg.val.deviceDescriptor.length := by
    rw [WfConfig.deviceDescriptor_length]
    exact min_le_right _ _
  unfold dispatchDeviceIn
  split
  · exact answered_reply hs _ _
  · split
    · split
      · exact answered_ctrlInStart hs hdev
      · split
        · exact answered_ctrlInStart hs (min_le_right _ _)
        · split
          · exact answered_reply hs _ _
          · rw [ite_self]
            exact answered_stall hs
    · exact answered_stall hs

theorem dispatch_answered : RequestAnswered (ReconfiguringRequest p) s (dispatch p s) := by
  unfold dispatch
  split
  · exact dispatchDeviceIn_answered hs p
  · split
    · next h =>
      unfold dispatchDeviceOut
      split
      · exact answered_ack hs ⟨rfl, rfl, rfl, fun h => h⟩
      · split
        · next hreq => exact setConfiguration_answered hs _ ⟨h.1, .inl hreq⟩
        · exact answered_stall hs
    · split
      · next h =>
        split
        · next hreq => exact setInterface_answered hs _ _ ⟨h.1, .inr hreq⟩
        · exact answered_stall hs
      · split
        · exact epClear_answered hs
        · split
          · unfold routeClass routeOut
            split
            · exact classIn_answered hs p
            · split
              · exact classOut0_answered hs p
              · exact classOut_answered hs p
          · exact answered_stall hs

end

/-- Settles O36. -/
theorem everySetupIsAnswered : Obligations.EverySetupIsAnswered := by
  intro s p hf hr
  have hs := acceptSetup_accepted p hf hr
  obtain ⟨t, ht, hsetup, h⟩ := dispatch_answered hs p
  have hrun : ∀ u : State, u.fatal = none → live u (dispatch p (acceptSetup p s)) = .next t := fun u hu =>
    (live_of_running hu _).trans ht
  exact ⟨t, hrun s hf, hrun s hf, hrun _ hs.fatal, hsetup, h⟩

end Sys2Proof.Machine
end

section
set_option Elab.async false
/-! PROOFS. An iteration of the main loop completes (spec/48_event_queue.md R424). -/

namespace Sys2Proof.Machine

/-! ## What an iteration needs -/

/-- What the main loop needs of a state to complete an iteration. -/
structure LoopReady (s : State) : Prop where
  fatal   : s.fatal = none
  ring    : RingOk s.rb ∧ RingFilled s.rb
  format  : FormatKnown s
  reply   : ReplyLongEnough s
  ready   : UsbReady s
  notices : ∀ n d len, .bufferDone n d len ∈ s.evq → NoticeServable s n d len ∧ CaptureHeld s ∧ BuffersPlaced s
  volumes : s.pstate = .playing → s.bufferReady = true →
    VolumesInTable s.chan ∧ ∀ len, .bufferDone 0 .OUT len ∉ s.evq

/-- The loop with its oldest event taken and `k` more allowed. -/
theorem LoopReady.popped {s : State} {e : UsbEvent} {rest : List UsbEvent} (h : LoopReady s) (hq : s.evq = e :: rest)
    (k : Nat) : LoopReady { s with evq := rest, eventsLeft := k } := by
  have hmem : ∀ {x}, x ∈ rest → x ∈ s.evq := fun hx => by rw [hq]; exact List.mem_cons_of_mem _ hx
  refine ⟨h.fatal, h.ring, h.format, h.reply, ⟨h.ready.ep0.of_eq rfl rfl, h.ready.layout, h.ready.fit⟩,
    fun n d len hx => ?_, fun hp hr => ⟨(h.volumes hp hr).1, fun len hx => (h.volumes hp hr).2 len (hmem hx)⟩⟩
  obtain ⟨⟨hpay, hpack⟩, hc, hb⟩ := h.notices n d len (hmem hx)
  exact ⟨⟨hpay, hpack⟩, hc, hb⟩

/-! ## The tick -/

theorem writeSilence_total {s : State} (h : s.format ≠ none) :
    ∃ t, writeSilence s = .ok () t ∧ t.evq = s.evq := by
  obtain ⟨f, hf⟩ := Option.ne_none_iff_exists'.1 h
  exact ⟨_, writeSilence_ok hf, rfl⟩

/-- A Playing tick with a free buffer, the volumes in the table (45 R344). -/
theorem playPeriod_total {s : State} (hok : RingOk s.rb) (hfill : RingFilled s.rb) (hfmt : s.format ≠ none)
    (hv : VolumesInTable s.chan) : ∃ t, playPeriod s = .ok () t ∧ t.evq = s.evq := by
  obtain ⟨f, hf⟩ := Option.ne_none_iff_exists'.1 hfmt
  by_cases hlow : 25 * ringCount s.rb ≤ 4 * s.rb.size
  · exact ⟨_, playPeriod_underrun hlow hf, rfl⟩
  · obtain ⟨b, v, hread⟩ := ringRead_total (s.periodBytes f) (s := { s with steadyFill := fillRatio s.rb }) hok hfill
    obtain ⟨m, hm, -⟩ := mix_isSome s.cfg hv f b
    refine ⟨_, playPeriod_mixes (Nat.lt_of_not_le hlow) hf hread hm, ?_⟩
    show v.evq = s.evq
    rw [ringRead_rb hread]

theorem playbackTick_total {s : State} (hring : RingOk s.rb ∧ RingFilled s.rb) (hfmt : FormatKnown s)
    (hv : s.pstate = .playing → s.bufferReady = true → VolumesInTable s.chan) :
    ∃ t, playbackTick s = .ok () t ∧ t.evq = s.evq := by
  cases hp : s.pstate with
  | stopped => exact ⟨s, playbackTick_stopped hp, rfl⟩
  | buffering =>
    rw [playbackTick_buffering hp, bufferingTick]
    split
    · exact ⟨_, rfl, rfl⟩
    · exact ⟨_, rfl, rfl⟩
  | playing =>
    rw [playbackTick_playing hp, playingTick_eq]
    split
    · next hr => 
      exact playPeriod_total (s := { s with bufferReady := false }) hring.1 hring.2 (hfmt (by simp [hp])) (hv hp hr)
    · exact ⟨_, rfl, rfl⟩
  | stalled =>
    rw [playbackTick_stalled hp]
    by_cases hlow : 5 * ringCount s.rb < 2 * s.rb.size
    · rw [stalledTick_below hlow]
      split
      · exact writeSilence_total (s := { s with bufferReady := false }) (hfmt (by simp [hp]))
      · exact ⟨_, rfl, rfl⟩
    · exact ⟨_, stalledTick_recovers (Nat.le_of_not_lt hlow), rfl⟩

/-! ## The events -/

/-- A completion on endpoint 0 that finds what it reads (41 R217). -/
theorem onEp0Done_total {s : State} {d : Dir} {len : Nat} (hf : s.fatal = none) (hr : Ep0Ready s)
    (hreply : ReplyLongEnough s) (hc : CaptureHeld s) (hpay : d = .OUT → len ≤ 64 ∧ s.ep0out.readN 0 len ≠ none) :
    ∃ t, (onEp0Done d len s).outcome = .next t := by
  cases hp : s.ctrlPhase with
  | dataIn =>
    cases d with
    | OUT => exact ⟨s, by simp only [onEp0Done, hp] <;> rfl⟩
    | IN =>
      have hrun : exec (.ep0InDoneData len) s = (onEp0Done .IN len s).outcome := by
        simp only [onEp0Done, hp]
        exact selected_of hf (decide_eq_true hp) _
      obtain ⟨hmore, h64, hlast⟩ := ep0InDataAdvances s len hf hr hp hreply
      rw [← hrun]
      by_cases hsent : s.cts.sentLength + s.cts.lastLen < s.cts.totalLength
      · obtain ⟨t, ht, -⟩ := hmore hsent
        exact ⟨t, ht⟩
      · by_cases hl : s.cts.lastLen = 64
        · exact ⟨_, h64 (Nat.le_of_not_lt hsent) hl⟩
        · exact ⟨_, hlast (Nat.le_of_not_lt hsent) hl⟩
  | dataOut =>
    cases d with
    | IN => exact ⟨s, by simp only [onEp0Done, hp] <;> rfl⟩
    | OUT =>
      obtain ⟨hl, hb⟩ := hpay rfl
      obtain ⟨b, hb⟩ := Option.ne_none_iff_exists'.1 hb
      obtain ⟨q, hq, hh⟩ := hc hp
      have hrun : onEp0Done .OUT len s = ep0OutData len s := by simp only [onEp0Done, hp]
      refine ⟨answered (outAnswer q b { s with pendingOut := none }), ?_⟩
      rw [hrun, ep0OutData_eq hq hl hb]
      exact outcome_answered hh hr.inEnabled
  | statusIn => cases d <;> exact ⟨_, by simp only [onEp0Done, hp] <;> rfl⟩
  | statusOut => cases d <;> exact ⟨_, by simp only [onEp0Done, hp] <;> rfl⟩
  | idle => cases d <;> exact ⟨_, by simp only [onEp0Done, hp] <;> rfl⟩

/-- A streaming packet that was stored, with a format selected (45 R352). -/
theorem onStreamOutDone_total {s : State} {len : Nat} (hf : s.fatal = none) (hok : RingOk s.rb) (hfmt : s.format ≠ none)
    (hin : (s.ep s.cfg.val.epStreamOut .OUT).bufferAddress + len ≤ s.cfg.val.sharedCapacity)
    (hread : s.epbuf.readN (s.ep s.cfg.val.epStreamOut .OUT).bufferAddress len ≠ none) :
    ∃ t, (onStreamOutDone len s).outcome = .next t := by
  obtain ⟨f, hfmt⟩ := Option.ne_none_iff_exists'.1 hfmt
  obtain ⟨payload, hread⟩ := Option.ne_none_iff_exists'.1 hread
  obtain ⟨v, t, -, ht, -⟩ := ingressFillsTheRing.2 s len f payload hf hok hfmt hin hread
  exact ⟨t, (live_of_running hf _).symm.trans ht⟩

/-- A notice that finds what its handling reads (48 R426). -/
theorem bufferDone_total {s : State} (h : LoopReady s) {n : Fin 16} {d : Dir} {len : Nat}
    (hn : NoticeServable s n d len) (hc : CaptureHeld s) (hb : BuffersPlaced s) :
    ∃ t, (bufferDone n d len s).outcome = .next t := by
  unfold bufferDone
  split
  · exact ⟨s, rfl⟩
  · next he =>
    have he : (s.ep n d).enabled = true := by simpa using he
    have hsame : SameEndpoints s (s.disarm n d) := act_sameEndpoints (disarm_act (sc := .any) s n d)
    have heq := disarm_eq s n d
    obtain ⟨hserved, hlayout⟩ := usbReady_iff.1 h.ready
    have hready : Served askFits (s.disarm n d) := hsame.served hserved
    generalize s.disarm n d = u at hsame heq hready
    have hfu : u.fatal = none := by rw [heq]; exact h.fatal
    dsimp only
    split
    · next h0 =>
      refine onEp0Done_total hfu (ep0Ready_iff.2 hready.ep0) ?_ ?_ fun hd => ?_
      · rw [heq]; exact h.reply
      · rw [heq]; exact hc
      · rw [heq]; exact hn.payload h0 hd
    · next h0 =>
      split
      · next hs =>
        obtain ⟨hso, rfl⟩ := hs
        have hcfg : u.cfg = s.cfg := by rw [heq]
        rw [hcfg] at hso
        subst hso
        obtain ⟨hfmt, hbytes⟩ := hn.packet rfl rfl
        obtain ⟨hact, hoff, -⟩ := hb _ _ h0 he
        obtain ⟨hin, hread⟩ := hbytes _ (by rw [← (hlayout hact).1]; exact hoff)
        have haddr : (u.ep u.cfg.val.epStreamOut .OUT).bufferAddress
            = (s.ep s.cfg.val.epStreamOut .OUT).bufferAddress := by rw [hcfg, hsame.address]
        refine onStreamOutDone_total hfu ?_ ?_ ?_ ?_
        · rw [heq]; exact h.ring.1
        · rw [heq]; exact hfmt
        · rw [haddr, hcfg]; exact hin
        · rw [haddr, heq]; exact hread
      · split
        · have hfit : BuffersFit u := hready.each
          obtain ⟨t, ht, -⟩ := fbStep_ok hfit.fbFits
          exact ⟨t, by rw [ht]; rfl⟩
        · exact ⟨u, rfl⟩

/-- Every event of the queue is handled to its end (48 R425). -/
theorem handle_total {s : State} {e : UsbEvent} (h : LoopReady s)
    (hn : ∀ n d len, e = .bufferDone n d len → NoticeServable s n d len ∧ CaptureHeld s ∧ BuffersPlaced s) :
    ∃ t, (handle e s).outcome = .next t := by
  cases e with
  | setupPacket p =>
    obtain ⟨t, ht, -⟩ := dispatch_answered (acceptSetup_accepted p h.fatal h.ready) p
    exact ⟨t, ht⟩
  | bufferDone n d len =>
    obtain ⟨hs, hc, hb⟩ := hn n d len rfl
    exact bufferDone_total h hs hc hb
  | busReset => exact ⟨_, congrArg Res.outcome (busReset_eq s)⟩

/-! ## What an event keeps -/

theorem readN_ne_none {m : Memory} {a n : Nat} : m.readN a n ≠ none ↔ ∀ j < n, m.read (a + j) ≠ none := by
  induction n generalizing a with
  | zero => simp [Memory.readN]
  | succ n ih =>
    rw [Nat.forall_lt_succ_left, Memory.readN]
    cases hb : m.read a with
    | none => simp
    | some x => simp [ih, Nat.add_assoc, Nat.add_comm 1]

theorem NoticeServable.kept {sc : Scope} {s t : State} {n : Fin 16} {d : Dir} {len : Nat} (hk : EventKept sc s t)
    (hcfg : t.cfg = s.cfg) (h : NoticeServable s n d len) : NoticeServable t n d len := by
  refine ⟨fun hn hd => ?_, fun hn hd => ?_⟩
  · rw [hk.ep0out]
    exact h.payload hn hd
  · rw [hcfg] at hn ⊢
    obtain ⟨hfmt, hbytes⟩ := h.packet hn hd
    refine ⟨hk.format hfmt, fun off hoff => ?_⟩
    obtain ⟨hin, hread⟩ := hbytes off hoff
    exact ⟨hin, readN_ne_none.2 fun j hj => hk.epbuf _ (readN_ne_none.1 hread j hj)⟩

/-- The moves of an event leave the loop ready for the next, unless they halt. -/
theorem LoopReady.kept {sc : Scope} (hsc : sc ≠ .any) {s t : State} (h : LoopReady s) (hf : t.fatal = none)
    (hm : Relation.ReflTransGen (Move sc) s t) (hv : s.pstate = .playing → s.bufferReady = true → sc = .event) :
    LoopReady t := by
  have hkept := moves_eventKept hsc hm
  have hctl := fine_controlKept (moves_fine hm)
  obtain ⟨hserved, hlayout⟩ := run_keeps (P := fun s => Served askFits s ∧ LayoutKnown s) (move_served grants_fits) hm
    (usbReady_iff.1 h.ready)
  have hready : UsbReady t := usbReady_iff.2 ⟨hserved, hlayout⟩
  refine ⟨hf, run_keeps (P := fun s => RingOk s.rb ∧ RingFilled s.rb) (fun hm hs => ?_) (moves_fine hm) h.ring,
    hctl.format h.format, hctl.reply h.reply, hready, fun n d len hx => ?_, fun hp hr => ?_⟩
  · rcases hm with hm | hm
    · exact act_keeps_ring hm hs
    · rw [configAct_rb hm]
      exact hs
  · rw [hkept.evq] at hx
    obtain ⟨hn, hc, hb⟩ := h.notices n d len hx
    have hplaced := run_keeps (P := fun s => Served askPlaced s ∧ LayoutKnown s) (move_served grants_placed) hm
      ⟨(served_placed_iff h.ready.ep0 h.ready.layout).2 hb, h.ready.layout⟩
    exact ⟨hn.kept hkept hctl.cfg, hctl.capture hc, (served_placed_iff hready.ep0 hlayout).1 hplaced.1⟩
  · have hp := hkept.playing hp
    have hr := hkept.bufferReady ▸ hr
    rw [hkept.chan (hv hp hr), hkept.evq]
    exact h.volumes hp hr

/-- The scope of an event: one without a class payload sets no channel. -/
theorem handle_kept {s t : State} {e : UsbEvent} {rest : List UsbEvent} {k : Nat} (h : LoopReady s)
    (hq : s.evq = e :: rest) (hu : (handle e { s with evq := rest, eventsLeft := k }).outcome = .next t) :
    t.evq = rest ∧ (t.fatal = none → LoopReady t) := by
  have hpop := h.popped hq k
  by_cases hp : UsbEvent.payload e
  · have hm := (handle_does (sc := .payload) e { s with evq := rest, eventsLeft := k } (.inr (by simp))).of_next hu
    refine ⟨(moves_eventKept (by simp) hm).evq, fun hf => hpop.kept (by simp) hf hm fun hpl hr => ?_⟩
    cases e with
    | bufferDone n d len =>
      obtain ⟨rfl, rfl⟩ := hp
      exact absurd (by rw [hq]; exact List.mem_cons_self) ((h.volumes hpl hr).2 len)
    | setupPacket p => exact hp.elim
    | busReset => exact hp.elim
  · have hm := (handle_does (sc := .event) e { s with evq := rest, eventsLeft := k } (.inl hp)).of_next hu
    exact ⟨(moves_eventKept (by simp) hm).evq, fun hf => hpop.kept (by simp) hf hm fun _ _ => rfl⟩

/-! ## The loop -/

theorem outcome_afterEvent {r : Res Unit} {u : State} (h : r.outcome = .next u) (k : State → Res Unit) :
    (afterEvent r k).outcome = if u.fatal = none then (k u).outcome else .next u := by
  rcases outcome_eq_next h with ⟨a, rfl⟩ | rfl <;> rw [afterEvent] <;> split <;> rfl

theorem endIteration_total {s : State} (h : LoopReady s) :
    ∃ t, (endIteration s).outcome = .next t ∧ t.evq = s.evq := by
  obtain ⟨t, ht, hq⟩ := playbackTick_total (s := { s with eventsLeft := s.cfg.val.maxEventsPerIter }) h.ring h.format
    fun hp hr => (h.volumes hp hr).1
  exact ⟨t, congrArg Res.outcome ht, hq⟩

/-- The loop takes the events it may, oldest first, unless one of them halts the machine. -/
theorem drain_total {k : Nat} {s : State} (h : LoopReady s) : ∃ t j, (drain k s).outcome = .next t ∧
    t.evq = s.evq.drop j ∧ j ≤ s.evq.length ∧ (t.fatal = none → j = min k s.evq.length) := by
  induction k generalizing s with
  | zero =>
    obtain ⟨t, ht, hq⟩ := endIteration_total h
    exact ⟨t, 0, ht, hq, Nat.zero_le _, fun _ => (Nat.zero_min _).symm⟩
  | succ k ih =>
    cases hq : s.evq with
    | nil =>
      obtain ⟨t, ht, hq'⟩ := endIteration_total h
      exact ⟨t, 0, (congrArg Res.outcome (drain_empty hq)).trans ht, hq'.trans hq, Nat.zero_le _, fun _ => rfl⟩
    | cons e rest =>
      have hpop := h.popped hq k
      obtain ⟨u, hu⟩ := handle_total (e := e) hpop fun n d len he => by
        obtain ⟨⟨hpay, hpack⟩, hc, hb⟩ := h.notices n d len (by rw [hq, he]; exact List.mem_cons_self)
        exact ⟨⟨hpay, hpack⟩, hc, hb⟩
      obtain ⟨hrest, hready⟩ := handle_kept h hq hu
      rw [drain_event hq, outcome_afterEvent hu]
      by_cases hf : u.fatal = none
      · obtain ⟨t, j, ht, htq, hj, hlen⟩ := ih (hready hf)
        rw [hrest] at htq hj hlen
        rw [if_pos hf]
        exact ⟨t, j + 1, ht, htq, Nat.succ_le_succ hj, fun h => by rw [hlen h, List.length_cons]; omega⟩
      · rw [if_neg hf]
        exact ⟨u, 1, rfl, hrest, by simp, fun h => absurd h hf⟩

theorem iterate_completes {s : State} (h : LoopReady s) : ∃ t, exec .iterate s = .next t ∧
    t.evq = s.evq.drop (s.evq.length - t.evq.length) ∧
      (t.fatal = none → t.evq.length = s.evq.length - s.cfg.val.maxEventsPerIter) := by
  obtain ⟨t, j, ht, hq, hj, hlen⟩ := drain_total (k := s.cfg.val.maxEventsPerIter) h
  have hl : t.evq.length = s.evq.length - j := by rw [hq, List.length_drop]
  refine ⟨t, (live_of_running h.fatal _).trans ht, ?_, fun hf => ?_⟩
  · rw [hl, show s.evq.length - (s.evq.length - j) = j by omega]
    exact hq
  · rw [hl, hlen hf]
    omega

theorem maxEventsPerIter_pos (c : WfConfig) : 1 ≤ c.val.maxEventsPerIter := by
  have h := c.ok
  simp only [Config.wf, Bool.and_eq_true, decide_eq_true_eq] at h
  tauto

/-- Settles O47. -/
theorem iterateCompletes : Obligations.IterateCompletes := by
  refine ⟨fun s hf hq => ?_, fun s hf hi hr hno hv => iterate_completes ?_,
    fun s hf hi hr hb hc hn hv => iterate_completes ?_⟩
  · obtain ⟨k, hk⟩ := Nat.exists_eq_add_of_le' (maxEventsPerIter_pos s.cfg)
    have hrun : exec .iterate s = (drain s.cfg.val.maxEventsPerIter s).outcome := live_of_running hf _
    rw [hrun, hk, drain_empty hq, ← hk]
    exact (live_of_running (s := { s with eventsLeft := s.cfg.val.maxEventsPerIter }) hf _).symm
  · exact ⟨hf, ⟨hi.ring, hi.filled⟩, hi.format, hi.reply, hr, fun n d len h => absurd h (hno n d len),
      fun hp hready => ⟨hv hp hready, fun len => hno 0 .OUT len⟩⟩
  · exact ⟨hf, ⟨hi.ring, hi.filled⟩, hi.format, hi.reply, hr, fun n d len h => ⟨hn n d len h, hc, hb⟩, hv⟩

end Sys2Proof.Machine
end
